-- ==== Sys2Proof/Word.lean ====
section
/-! DEFINITION. The plain value types the other files share. -/
namespace Sys2Proof

/-- One byte of the Control Link (R160). -/
abbrev Byte := BitVec 8

/-- One 10-bit sample word, 0 to 1023 (00_scope.md section 6.1, R2). -/
abbrev Sample := BitVec 10

/-- A lane number, 0 to 3 (00_scope.md section 2). -/
abbrev Lane := Fin 4

/-- A field slot number, 0 to 95 (R31). -/
abbrev SlotId := Fin 96

/-- A field's parity, 0 or 1 (R2). -/
abbrev Parity := Fin 2

end Sys2Proof
end

