-- ==== Sys2Proof/Syntax.lean ====
section
/-! DEFINITION. The commands of the block: one constructor per row of spec/opcode_table.json, in the table's order.

A request's own values do not stand in its constructor: they travel in the request frame that waits at the head of the
request queue (R166), where the command finds them. -/
namespace Sys2Proof

/-- A timecode label word: eight BCD digits in the order of Table 15, the drop-frame bit and the label-valid bit (R1). -/
structure LabelWord where
  digits    : Vector (BitVec 4) 8
  dropFrame : Bool
  valid     : Bool
  deriving DecidableEq, Repr

/-- The levels at which an input was seen over a time: at one of them only, or at both (R158). -/
inductive SeenLevels where
  | lowOnly | highOnly | both
  deriving DecidableEq, Repr

/-- The commands. An event of a lane names its lane. -/
inductive Instr where
  /-- Power-on reset (R178). -/
  | powerOnReset
  /-- The maintenance strap input falls (R184). -/
  | strapFall
  /-- A field-start pulse, with the parity and held levels read at it (R1, R5). -/
  | fieldStart (lane : Lane) (parity : Parity) (held : Bool)
  /-- A line-start pulse (R7). -/
  | lineStart (lane : Lane)
  /-- One sample word presented with its sample-valid level and its dropout flag (R1, R7). -/
  | sampleWord (lane : Lane) (sample : Sample) (sampleValid dropout : Bool)
  /-- A label word presented between field-starts (R1). -/
  | labelWord (lane : Lane) (label : LabelWord)
  /-- The no-signal timer expires (R12). -/
  | noSignalTimerExpiry (lane : Lane)
  /-- The Dropout Compensator's event for the lane's field in the chain (R50). -/
  | dropoutRepair (lane : Lane)
  /-- The Label Decoder's event for it, with the join (R18, R42). -/
  | labelJudgement (lane : Lane)
  /-- The Cadence Monitor's event for it (R63). -/
  | cadenceMonitorEvent (lane : Lane)
  /-- The Operation Controller's event for it (R85). -/
  | fieldTaken (lane : Lane)
  /-- The ACQUIRE wait timer expires (R139). -/
  | waitTimerExpiry (lane : Lane)
  /-- The LINE TEST window ends; the operand is the levels the field-start input was seen at in the window (R158). -/
  | testWindowEnd (lane : Lane) (seen : SeenLevels)
  /-- The arbiter makes a grant (R93). -/
  | grant
  /-- The running job completes (R96). -/
  | jobCompletion
  /-- The Output Channel starts a send (R123). -/
  | sendStart (lane : Lane)
  /-- A sent line other than the last ends (R124). -/
  | outputLineEnd (lane : Lane)
  /-- The recorder raises ready (R124). -/
  | recorderReadyRise (lane : Lane)
  /-- Line 1080 of a send ends (R125). -/
  | sendCompletion (lane : Lane)
  /-- The memory self test ends: no operand unit on PASS, the failing unit on FAIL (R48). -/
  | selfTestEnd (failingUnit : Option Nat)
  /-- A byte time ends whose inbound byte is a frame's CHECK byte (R163, R164). -/
  | frameReceived (byte : Byte)
  /-- A byte time ends whose inbound byte is a LENGTH byte outside 2 to 250 (R163). -/
  | lengthFormatError (byte : Byte)
  /-- Select rises (R160, R163, R174). -/
  | selectRise
  /-- The head record of the outbound queue starts out (R172, R173). -/
  | recordStartOut
  /-- A byte time ends in which the CHECK byte of the record in flight is shifted out; the operand is its inbound byte
  (R160, R172). -/
  | recordSent (byte : Byte)
  /-- The Request Handler takes a STATUS request (R186). -/
  | status
  /-- The Request Handler takes a CAPABILITIES request (R187). -/
  | capabilities
  /-- The Request Handler takes an INSPECT FIELD request (R188). -/
  | inspectField
  /-- The Request Handler takes a CONFIGURE LANE request (R180). -/
  | configureLane
  /-- The Request Handler takes a LOAD PROFILE request (R109). -/
  | loadProfile
  /-- The Request Handler takes a SET NOTICES request (R176). -/
  | setNotices
  /-- The Request Handler takes a SET ACCESS request (R183). -/
  | setAccess
  /-- The Request Handler takes a PARTITION request (R36). -/
  | partition
  /-- The Request Handler takes a LOAD COEFFICIENTS request (R113). -/
  | loadCoefficients
  /-- The Request Handler takes a COEFFICIENT DATA request (R114). -/
  | coefficientData
  /-- The Request Handler takes a SELF TEST request (R47). -/
  | selfTest
  /-- The Request Handler takes a RESET request (R179). -/
  | reset
  /-- The Request Handler takes an ACQUIRE request (R135). -/
  | acquire
  /-- The Request Handler takes a RELEASE request (R141). -/
  | release
  /-- The Request Handler takes a CUE request (R142). -/
  | cue
  /-- The Request Handler takes a TRANSFER request (R145). -/
  | transfer
  /-- The Request Handler takes an AMEND request (R154). -/
  | amend
  /-- The Request Handler takes a SCAN request (R156). -/
  | scan
  /-- The Request Handler takes a PROBE request (R157). -/
  | probe
  /-- The Request Handler takes a LINE TEST request (R158). -/
  | lineTest
  /-- The Request Handler takes a STOP request (R140). -/
  | stop
  /-- The Request Handler takes a request of a kind that is no request kind (R167). -/
  | unknownKind
  /-- The recorder lowers ready (R124). -/
  | recorderReadyFall (lane : Lane)
  /-- The maintenance strap input rises (R184). -/
  | strapRise
  /-- Select falls (R160). -/
  | selectFall
  /-- A byte time ends, at its eighth rising clock edge, with its inbound byte (R160). -/
  | byteTimeEnd (byte : Byte)
  deriving DecidableEq, Repr

end Sys2Proof
end

