-- ==== Sys2Proof/WellFormed.lean ====
section
/-! DEFINITION. Which commands are well-formed. Most operands are bounded by their types; the one that is not is the
failing unit of a self test. -/
namespace Sys2Proof

/-- The self test's unit numbers: a slot number 0 to 95, or 100 plus a frame buffer number 0 to 7 (R48). -/
def testUnitOk (u : Nat) : Bool := u ≤ 95 || (100 ≤ u && u ≤ 107)

/-- A command is well-formed when its operands are values the spec gives it. -/
def Instr.wellFormed : Instr → Bool
  | .selfTestEnd (some u) => testUnitOk u
  | .selfTestEnd none => true
  | .powerOnReset => true
  | .strapFall => true
  | .fieldStart _ _ _ => true
  | .lineStart _ => true
  | .sampleWord _ _ _ _ => true
  | .labelWord _ _ => true
  | .noSignalTimerExpiry _ => true
  | .dropoutRepair _ => true
  | .labelJudgement _ => true
  | .cadenceMonitorEvent _ => true
  | .fieldTaken _ => true
  | .waitTimerExpiry _ => true
  | .testWindowEnd _ _ => true
  | .grant => true
  | .jobCompletion => true
  | .sendStart _ => true
  | .outputLineEnd _ => true
  | .recorderReadyRise _ => true
  | .sendCompletion _ => true
  | .frameReceived _ => true
  | .lengthFormatError _ => true
  | .selectRise => true
  | .recordStartOut => true
  | .recordSent _ => true
  | .status => true
  | .capabilities => true
  | .inspectField => true
  | .configureLane => true
  | .loadProfile => true
  | .setNotices => true
  | .setAccess => true
  | .partition => true
  | .loadCoefficients => true
  | .coefficientData => true
  | .selfTest => true
  | .reset => true
  | .acquire => true
  | .release => true
  | .cue => true
  | .transfer => true
  | .amend => true
  | .scan => true
  | .probe => true
  | .lineTest => true
  | .stop => true
  | .unknownKind => true
  | .recorderReadyFall _ => true
  | .strapRise => true
  | .selectFall => true
  | .byteTimeEnd _ => true

end Sys2Proof
end

