-- ==== Sys2Proof/Config.lean ====
section
/-! DEFINITION. The fixed figures of the part, and the free values. -/
namespace Sys2Proof.Config

/-- Words of a field line (R2). -/
def lineWords : Nat := 1440

/-- Luma positions of a field line (R2). -/
def lumaWidth : Nat := 720

/-- Lines of an output raster (R120). -/
def rasterLines : Nat := 1080

/-- Words of a raster line (R120). -/
def rasterWords : Nat := 3840

/-- The top of the sequence counter (R6), also where the counts of an operation stop (R131). -/
def max32 : Nat := 4294967295

/-- The longest history window (R42). -/
def windowSize : Nat := 4

/-- The longest dropout list (R16). -/
def maxSpans : Nat := 32

/-- The longest pending job queue (R85). -/
def maxJobs : Nat := 32

/-- Where the jobs created count stops (R147). -/
def maxJobsCreated : Nat := 16777215

/-- Request queue entries (R164). -/
def requestPlaces : Nat := 4

/-- Reply places of the outbound queue (Table 69). -/
def replyPlaces : Nat := 4

/-- General places of the outbound queue (Table 69). -/
def generalPlaces : Nat := 8

/-- The design revision that READY and CAPABILITIES give (R177, R187). -/
def designRevision : Nat := 3

/-- FREE VALUE (log entry 3). What a container of the stacked DRAM holds where the spec calls its contents undefined or
nothing has written it: any sample, for each count of the times the contents of its region became undefined and each
address. -/
opaque undefinedWord : Nat → Nat → Sample

/-- FREE VALUE (log entry 23). Which S525 counting, drop-frame or not, the record of a field with an ABSENT label and no
index shows in mode FOLLOW, for the field's sequence: R20 decides it by the label's bit, which R21 does not let the decoder
use. -/
opaque absentDropFrame : Nat → Bool

/-- FREE VALUE (log entry 24). The drop-frame bit kept for the field of a sequence for which no label word was presented:
R1 and R190 give the nibbles and the label-valid bit only. -/
opaque missingDropFrame : Nat → Bool

/-- FREE VALUE (log entry 25). The last transfer tag byte of STATUS for a lane, at a value of its sequence counter, while
bit 3 of the lane flags is clear: Table 74 says only when the byte is valid. -/
opaque invalidTag : Nat → Nat → Byte

end Sys2Proof.Config
end

