-- ==== Sys2Proof/Machine/State.lean ====
section
/-! DEFINITION. Everything the spec gives the part to hold, as plain data, and the part right after power-on reset. -/
namespace Sys2Proof.Machine

/-! ## Lane settings (10_configuration, Table 73) -/

/-- The two video standards (Table 8). -/
inductive Standard where
  | s625 | s525
  deriving DecidableEq, Repr

/-- The timecode modes (R19). -/
inductive TcMode where
  | none | nonDrop | drop | follow
  deriving DecidableEq, Repr

/-- The repair methods (R51). -/
inductive RepairMethod where
  | off | temporalFirst | spatialFirst
  deriving DecidableEq, Repr

/-- The twelve settings of a lane (Table 73). -/
structure Settings where
  standard      : Standard
  dominance     : Parity
  tcMode        : TcMode
  serviceLevel  : Nat
  lockCount     : Nat
  combThr       : Nat
  repeatThr     : Nat
  cadenceEnable : Bool
  lockIn        : Nat
  lockLimit     : Nat
  flywheelLimit : Nat
  repair        : RepairMethod
  deriving DecidableEq, Repr

/-- The power-on values of Table 73. -/
def Settings.powerOn : Settings where
  standard      := .s625
  dominance     := 0
  tcMode        := .nonDrop
  serviceLevel  := 1
  lockCount     := 10
  combThr       := 256
  repeatThr     := 64
  cadenceEnable := true
  lockIn        := 4
  lockLimit     := 100
  flywheelLimit := 50
  repair        := .temporalFirst

/-! ## Fields and their records -/

/-- The kinds of a span (R16). -/
inductive SpanKind where
  | run | line | rest
  deriving DecidableEq, Repr

/-- The outcomes of a span (Table 77). -/
inductive SpanOutcome where
  | notAttempted | substituted | interpolated | unrepaired
  deriving DecidableEq, Repr

/-- One entry of a dropout list (R16). -/
structure Span where
  line    : Nat
  first   : Nat
  last    : Nat
  kind    : SpanKind
  outcome : SpanOutcome
  deriving DecidableEq, Repr

/-- The label numbers a range check can name (R23). -/
inductive LabelNumber where
  | hours | minutes | seconds | frames
  deriving DecidableEq, Repr

/-- The label results with their details (section 2.3). -/
inductive LabelResult where
  | valid
  | absent
  | illegalDigit (position : Nat)
  | range (number : LabelNumber)
  | dropLabel
  deriving DecidableEq, Repr

/-- The countings (R20, Table 77). -/
inductive Counting where
  | none | s625 | nonDrop | dropFrame
  deriving DecidableEq, Repr

/-- Where an index came from (R25, R26). -/
inductive Origin where
  | read | flywheel | absent
  deriving DecidableEq, Repr

/-- The cadence tracker's states (Table 28). -/
inductive Tracker where
  | video | film22 | film32
  deriving DecidableEq, Repr

/-- The field record kept with a stored field (R13, R29, R61, R68, R81, R195). -/
structure FieldRecord where
  sequence      : Nat
  parity        : Parity
  held          : Bool
  malformed     : Bool
  discontinuity : Bool
  label         : LabelWord
  spans         : List Span
  substituted   : Nat
  interpolated  : Nat
  unrepaired    : Nat
  result        : LabelResult
  counting      : Counting
  index         : Option Nat
  origin        : Origin
  gap           : Bool
  measured      : Bool
  dsame         : Option Nat
  dadj          : Option Nat
  level         : Option Nat
  flagA         : Option Bool
  flagR         : Option Bool
  fullyMeasured : Bool
  tracker       : Tracker
  position      : Option Nat
  deriving DecidableEq, Repr

/-- The label word kept for the field of sequence `seq` when none was presented: label-valid low and nibbles 0 (R1, R190);
its drop-frame bit is a free value (DESIGN CHOICE, log entry 24). -/
def noLabel (seq : Nat) : LabelWord where
  digits    := Vector.replicate 8 0
  dropFrame := Config.missingDropFrame seq
  valid     := false

/-- A new field record, as an intake makes it (R37): nothing judged, repaired or measured yet. -/
def FieldRecord.fresh (sequence : Nat) (parity : Parity) (held : Bool) : FieldRecord where
  sequence      := sequence
  parity        := parity
  held          := held
  malformed     := false
  discontinuity := false
  label         := noLabel sequence
  spans         := []
  substituted   := 0
  interpolated  := 0
  unrepaired    := 0
  result        := .absent
  counting      := .none
  index         := Option.none
  origin        := .absent
  gap           := false
  measured      := false
  dsame         := Option.none
  dadj          := Option.none
  level         := Option.none
  flagA         := Option.none
  flagR         := Option.none
  fullyMeasured := false
  tracker       := .video
  position      := Option.none

/-! ## The Field Store -/

/-- The states of a slot (R32). -/
inductive SlotState where
  | free | writing | held
  deriving DecidableEq, Repr

/-- A slot table entry (Table 20); the slot number is its place in the table. -/
structure Slot where
  state    : SlotState
  owner    : Option Lane
  refs     : Nat
  sequence : Option Nat
  record   : Option FieldRecord
  deriving DecidableEq, Repr

/-- A FREE slot (R32). -/
def Slot.empty : Slot where
  state    := .free
  owner    := Option.none
  refs     := 0
  sequence := Option.none
  record   := Option.none

/-- The stacked DRAM (R31): the containers with a known sample, by container address, addresses strictly rising. A
container that is not listed has no known contents, and reads as the free value `Config.undefinedWord`; `gens` (the
MODEL's own field, log entry 3) counts, for the field slots as a whole and for each of the eight frame buffers, how often
its contents became undefined. -/
structure Dram where
  cells : List (Nat × Sample)
  gens  : Vector Nat 9
  deriving DecidableEq, Repr

/-! ## The Ingest Lane and the completion chain -/

/-- The lane states (Table 9). -/
inductive LaneState where
  | off | noSignal | seeking | locked
  deriving DecidableEq, Repr

/-- The open field under assembly (section 1.3), with its run builder: the spans so far, and the flagged word
positions of the current line. -/
structure OpenField where
  sequence  : Nat
  parity    : Parity
  held      : Bool
  label     : LabelWord
  lines     : Nat
  lineOpen  : Bool
  words     : Nat
  flagged   : List Nat
  malformed : Bool
  slot      : Option SlotId
  spans     : List Span
  deriving DecidableEq, Repr

/-- The Ingest Lane (Table 9). `sequence` is the sequence counter; `timer` says that the no-signal timer runs. -/
structure IngestLane where
  state      : LaneState
  sequence   : Nat
  goodRun    : Nat
  badRun     : Nat
  timer      : Bool
  prevParity : Option Parity
  openField  : Option OpenField
  lastStored : Option Nat
  deriving DecidableEq, Repr

/-- The Ingest Lane after reset and RELEASE (R17). -/
def IngestLane.reset : IngestLane where
  state      := .off
  sequence   := 0
  goodRun    := 0
  badRun     := 0
  timer      := false
  prevParity := Option.none
  openField  := Option.none
  lastStored := Option.none

/-- The step of the completion chain that a kept field waits for (R18, R50, R63, R85). -/
inductive ChainStage where
  | repair | label | monitor | controller
  deriving DecidableEq, Repr

/-- The field in a lane's completion chain (R34). -/
structure ChainField where
  stage : ChainStage
  slot  : SlotId
  deriving DecidableEq, Repr

/-! ## The Label Decoder -/

/-- The last indexed entry (Table 13). -/
structure IndexedField where
  sequence : Nat
  index    : Nat
  counting : Counting
  deriving DecidableEq, Repr

/-- The last judged entry (Table 13). -/
structure JudgedField where
  sequence : Nat
  index    : Option Nat
  deriving DecidableEq, Repr

/-- The Label Decoder (Table 13). -/
structure LabelDecoder where
  lastJudged  : Option JudgedField
  lastIndexed : Option IndexedField
  flywheelRun : Nat
  deriving DecidableEq, Repr

/-- Its reset, enable and release values (R30). -/
def LabelDecoder.reset : LabelDecoder := ⟨Option.none, Option.none, 0⟩

/-! ## The Cadence Monitor -/

/-- A hypothesis record (R72). -/
structure Hypothesis where
  position : Nat
  run      : Nat
  deriving DecidableEq, Repr

/-- The Cadence Monitor (Table 28). -/
structure Monitor where
  tracker  : Tracker
  filmPos  : Option Nat
  mismatch : Nat
  hyps     : Vector Hypothesis 7
  deriving DecidableEq, Repr

/-- Its reset, enable and release values (R84). -/
def Monitor.reset : Monitor where
  tracker  := .video
  filmPos  := Option.none
  mismatch := 0
  hyps     := #v[⟨0, 0⟩, ⟨1, 0⟩, ⟨0, 0⟩, ⟨1, 0⟩, ⟨2, 0⟩, ⟨3, 0⟩, ⟨4, 0⟩]

/-! ## Profiles, snapshots and filter sets -/

/-- A profile (Table 49). -/
structure Profile where
  x0 : Nat
  ws : Nat
  y0 : Nat
  hs : Nat
  xd : Nat
  yd : Nat
  wd : Nat
  hd : Nat
  filterSet : Nat
  borderY  : Nat
  borderCb : Nat
  borderCr : Nat
  mlow : Nat
  gain : Nat
  deriving DecidableEq, Repr

/-- The default profile (Table 49). -/
def Profile.default : Profile where
  x0 := 9
  ws := 702
  y0 := 0
  hs := 576
  xd := 240
  yd := 0
  wd := 1440
  hd := 1080
  filterSet := 0
  borderY  := 64
  borderCb := 512
  borderCr := 512
  mlow := 12
  gain := 1024

/-- A scaler step and its offset, in 1/65536 (R116). -/
structure ScaleStep where
  step   : Int
  offset : Int
  deriving DecidableEq, Repr

/-- A transfer's snapshot: the profile with its window fitted, the WINDOW_CLAMPED mark and the three step pairs
(R110, R111, R116). -/
structure Snapshot where
  profile       : Profile
  windowClamped : Bool
  lumaH         : ScaleStep
  chromaH       : ScaleStep
  vertical      : ScaleStep
  deriving DecidableEq, Repr

/-- A filter set: its load state, 32 horizontal phases of 6 taps, 32 vertical phases of 4 taps, and their received
marks (section 7.3, R112). -/
structure FilterSet where
  complete : Bool
  h        : Vector (Vector Int 6) 32
  v        : Vector (Vector Int 4) 32
  marksH   : Vector Bool 32
  marksV   : Vector Bool 32
  deriving DecidableEq, Repr

/-- Filter set 0, and what sets 1 to 3 hold at power-on (Table 50, R112). -/
def FilterSet.linear : FilterSet where
  complete := true
  h        := Vector.ofFn fun (p : Fin 32) => #v[0, 0, 16384 - 512 * (p.val : Int), 512 * (p.val : Int), 0, 0]
  v        := Vector.ofFn fun (p : Fin 32) => #v[0, 16384 - 512 * (p.val : Int), 512 * (p.val : Int), 0]
  marksH   := Vector.replicate 32 false
  marksV   := Vector.replicate 32 false

/-! ## Render jobs and the Render Engine -/

/-- The modes of a job (R90). -/
inductive RenderMode where
  | adaptive | weavePrev | weaveNext
  deriving DecidableEq, Repr

/-- The states of a job (R87). -/
inductive JobState where
  | waitingNext | ready | running
  deriving DecidableEq, Repr

/-- The label items of a job (R86); `mode` is none until the job becomes READY (R90). -/
structure LabelItems where
  sequence      : Nat
  index         : Option Nat
  origin        : Origin
  mode          : Option RenderMode
  tracker       : Tracker
  held          : Bool
  discontinuity : Bool
  untrusted     : Bool
  windowClamped : Bool
  substituted   : Nat
  interpolated  : Nat
  unrepaired    : Nat
  deriving DecidableEq, Repr

/-- A render job (Table 37). The four `field…` items are the slots of the fields it lists. `transferId` is the identity
of its transfer (log entry 6) and `filmAware` its transfer's FILM_AWARE option. Next is pending while the job is
WAITING_NEXT, and then present or absent as `fieldNext` says. -/
structure Job where
  lane       : Lane
  sequence   : Nat
  tag        : Byte
  transferId : Nat
  filmAware  : Bool
  state      : JobState
  fieldPrev2 : Option SlotId
  fieldPrev  : Option SlotId
  fieldSelf  : Option SlotId
  fieldNext  : Option SlotId
  snapshot   : Snapshot
  buffer     : Option (Fin 2)
  items      : LabelItems
  deriving DecidableEq, Repr

/-- The Render Engine (Table 40). -/
structure Engine where
  running : Option Job
  pointer : Lane
  deriving DecidableEq, Repr

/-- The Render Engine after reset (R99). -/
def Engine.reset : Engine := ⟨Option.none, 3⟩

/-! ## Output Channels -/

/-- The states of a frame buffer (R121). -/
inductive BufferState where
  | free | lent | queued | sending
  deriving DecidableEq, Repr

/-- A finished frame in a frame queue: its buffer, its label items and its transfer (R122, R126). -/
structure Frame where
  buffer     : Fin 2
  lane       : Lane
  tag        : Byte
  transferId : Nat
  items      : LabelItems
  deriving DecidableEq, Repr

/-- The send states, with next line while there is a send (Table 55): SENDING with the line under way, PAUSED with the
line not yet sent. -/
inductive SendState where
  | idle
  | sending (line : Nat)
  | paused (line : Nat)
  deriving DecidableEq, Repr

/-- An Output Channel (Table 55) with the level of its recorder's ready line. -/
structure Channel where
  buffers : Vector BufferState 2
  queue   : List Frame
  send    : SendState
  ready   : Bool
  deriving DecidableEq, Repr

/-- The channel after power-on (R128); the level of ready is the recorder's, and the model starts it low
(log entry 4). -/
def Channel.powerOn : Channel := ⟨Vector.replicate 2 .free, [], .idle, false⟩

/-! ## Operations -/

/-- The modes of a CUE (R142). -/
inductive CueMode where
  | exact | atOrAfter
  deriving DecidableEq, Repr

/-- The start of a TRANSFER (R146). -/
inductive TransferStart where
  | immediate
  | atIndex (index : Nat)
  deriving DecidableEq, Repr

/-- The end of a TRANSFER (R148). -/
inductive TransferEnd where
  | never
  | count (n : Nat)
  | atIndex (index : Nat)
  deriving DecidableEq, Repr

/-- The parameters of a TRANSFER (section 8.7). -/
structure TransferParams where
  profile       : Nat
  start         : TransferStart
  ending        : TransferEnd
  skipHeld      : Bool
  filmAware     : Bool
  stopOnGap     : Bool
  stopOnOverrun : Bool
  deriving DecidableEq, Repr

/-- The sub-states of a transfer (R129). -/
inductive SubState where
  | armed | running | draining
  deriving DecidableEq, Repr

/-- The measures a SCAN may choose (R156). -/
inductive ScanMeasure where
  | scene | comb | level
  deriving DecidableEq, Repr

/-- The comparisons of a SCAN (R156). -/
inductive Comparison where
  | equal (tolerance : Nat)
  | atOrBelow
  | atOrAbove
  deriving DecidableEq, Repr

/-- The parameters of a SCAN; no parity filter is ANY (R156). -/
structure ScanParams where
  measure    : ScanMeasure
  comparison : Comparison
  reference  : Nat
  parity     : Option Parity
  limit      : Nat
  deriving DecidableEq, Repr

/-- What a LINE TEST has seen in its window: a word with sample-valid high, the field-start input high and low, and the
field-starts with their parity levels (R158). -/
structure LineWatch where
  sampleSeen  : Bool
  highSeen    : Bool
  lowSeen     : Bool
  fieldStarts : Nat
  parity0Seen : Bool
  parity1Seen : Bool
  deriving DecidableEq, Repr

/-- A window that has just opened. -/
def LineWatch.start : LineWatch := ⟨false, false, false, 0, false, false⟩

/-- The operation state with the running operation's parameters (Table 58, R129). -/
inductive OpState where
  | idle
  | acquiring (waitLimit : Nat)
  | cueing (mode : CueMode) (target limit : Nat)
  | transfer (sub : SubState) (params : TransferParams)
  | scanning (params : ScanParams)
  | probing
  | lineTesting (watch : LineWatch)
  deriving DecidableEq, Repr

/-- The operations a completion record names (Table 77). -/
inductive OpKind where
  | idle | acquire | cue | transfer | scan | probe | lineTest
  deriving DecidableEq, Repr

/-- The causes of Table 61. -/
inductive Cause where
  | endReached | endPassed | startLate | targetPassed | notFound | lockFailed | noSignal | overrun | timecodeGap
  | windowClamped | amended
  deriving DecidableEq, Repr

/-- The end classes (Table 62). -/
inductive EndClass where
  | normal | abnormal | sourceChange | aborted
  deriving DecidableEq, Repr

/-- The counts of an operation (Table 60). -/
structure Counts where
  fieldsTaken    : Nat
  framesSent     : Nat
  heldSkipped    : Nat
  fieldsDropped  : Nat
  substituted    : Nat
  interpolated   : Nat
  unrepaired     : Nat
  timecodeErrors : Nat
  deriving DecidableEq, Repr

/-- Every count 0 (R130). -/
def Counts.zero : Counts := ⟨0, 0, 0, 0, 0, 0, 0, 0⟩

/-- A field named by sequence, with its index and origin (R132, R190). -/
structure FieldRef where
  sequence : Nat
  index    : Option Nat
  origin   : Origin
  deriving DecidableEq, Repr

/-- The field header of a PROBE (R157). -/
structure FieldHeader where
  ref       : FieldRef
  parity    : Parity
  held      : Bool
  malformed : Bool
  result    : LabelResult
  spanCount : Nat
  dsame     : Option Nat
  dadj      : Option Nat
  level     : Option Nat
  deriving DecidableEq, Repr

/-- The operation-specific part of a completion record (Table 82). -/
inductive OpPart where
  | nothing
  | scanFound (field : FieldRef) (value : Nat)
  | probed (header : FieldHeader)
  | lineCode (code : Nat)
  deriving DecidableEq, Repr

/-- A completion record (R133, Table 81). -/
structure Completion where
  lane   : Lane
  op     : OpKind
  tag    : Byte
  cls    : EndClass
  cause  : Option Cause
  causes : List Cause
  counts : Counts
  first  : Option FieldRef
  last   : Option FieldRef
  part   : OpPart
  deriving DecidableEq, Repr

/-- The last transfer tag with its mark (R153). -/
structure LastTag where
  tag       : Byte
  completed : Bool
  deriving DecidableEq, Repr

/-- The Operation Controller (Table 58). `lastJobIndex` is the index of the last field given a job that carries one
(R154), `pendingDiscontinuity` says that since the transfer's previous job a field with a mark got no job or was treated
as a drop (R86), and `transferId` numbers the lane's transfers (log entry 6). -/
structure Controller where
  state         : OpState
  tag           : Byte
  counts        : Counts
  causes        : List Cause
  endCause      : Option Cause
  endClass      : Option EndClass
  first         : Option FieldRef
  last          : Option FieldRef
  snapshot      : Option Snapshot
  jobsCreated   : Nat
  lastJobIndex  : Option Nat
  pendingDiscontinuity : Bool
  waitTimer     : Bool
  seekingCount  : Nat
  limitCount    : Nat
  previousIndex : Option Nat
  held          : Option Completion
  lastTag       : Option LastTag
  jobs          : List Job
  transferId    : Nat
  deriving DecidableEq, Repr

/-- The Operation Controller after reset (R159). -/
def Controller.reset : Controller where
  state         := .idle
  tag           := 0
  counts        := Counts.zero
  causes        := []
  endCause      := Option.none
  endClass      := Option.none
  first         := Option.none
  last          := Option.none
  snapshot      := Option.none
  jobsCreated   := 0
  lastJobIndex  := Option.none
  pendingDiscontinuity := false
  waitTimer     := false
  seekingCount  := 0
  limitCount    := 0
  previousIndex := Option.none
  held          := Option.none
  lastTag       := Option.none
  jobs          := []
  transferId    := 0

/-! ## One lane -/

/-- Everything that exists once for each lane. -/
structure LaneUnit where
  settings : Settings
  ingest   : IngestLane
  chain    : Option ChainField
  decoder  : LabelDecoder
  monitor  : Monitor
  /-- The Field Store's quota for the lane (R35). -/
  quota    : Nat
  /-- The history window, oldest member first (R42). -/
  window   : List SlotId
  /-- The overrun episode flag (R39). -/
  overrun  : Bool
  op       : Controller
  channel  : Channel
  deriving DecidableEq, Repr

/-- A lane at power-on (R17, R30, R49, R84, R128, R159, Table 73). -/
def LaneUnit.powerOn : LaneUnit where
  settings := Settings.powerOn
  ingest   := IngestLane.reset
  chain    := Option.none
  decoder  := LabelDecoder.reset
  monitor  := Monitor.reset
  quota    := 24
  window   := []
  overrun  := false
  op       := Controller.reset
  channel  := Channel.powerOn

/-! ## The Request Handler -/

/-- The handler's states (Table 66); a running self test keeps its request's TAG for the reply (R48, R168). -/
inductive HandlerState where
  | free
  | selfTesting (tag : Byte)
  deriving DecidableEq, Repr

/-- The access levels (R183). -/
inductive Access where
  | operator | engineering
  deriving DecidableEq, Repr

/-- The notice enable mask: true is enabled (R176). -/
structure NoticeMask where
  lock    : Bool
  cadence : Bool
  overrun : Bool
  deriving DecidableEq, Repr

/-- The Request Handler's own state (Table 66, R108, R112, R183); the lane settings it keeps stand with their lanes. -/
structure Handler where
  state    : HandlerState
  access   : Access
  mask     : NoticeMask
  profiles : Vector Profile 8
  filters  : Vector FilterSet 4
  deriving DecidableEq, Repr

/-- The handler at power-on (R185). -/
def Handler.powerOn : Handler where
  state    := .free
  access   := .operator
  mask     := ⟨true, true, true⟩
  profiles := Vector.replicate 8 Profile.default
  filters  := Vector.replicate 4 FilterSet.linear

/-- Every block behind the Control Link Interface, and the maintenance strap input. -/
structure Device where
  lanes    : Vector LaneUnit 4
  slots    : Vector Slot 96
  freeList : List SlotId
  dram     : Dram
  engine   : Engine
  handler  : Handler
  strap    : Bool
  deriving DecidableEq, Repr

/-- The free list as every reset re-forms it (R49). -/
def initialFreeList : List SlotId := List.finRange 96

/-- The part behind the link at power-on. -/
def Device.powerOn : Device where
  lanes    := Vector.replicate 4 LaneUnit.powerOn
  slots    := Vector.replicate 96 Slot.empty
  freeList := initialFreeList
  dram     := ⟨[], Vector.replicate 9 0⟩
  engine   := Engine.reset
  handler  := Handler.powerOn
  strap    := false

/-! ## The Control Link Interface -/

/-- The refusal codes (Table 68). -/
inductive RefusalCode where
  | unknownKind | length | range | busy | notLocked | laneOff | privilege | tooLate | notRunning | inUse | incomplete
  | notOpen
  deriving DecidableEq, Repr

/-- The outcome of a reply, with the refusal's code (R168). -/
inductive ReplyOutcome where
  | done
  | started
  | refused (code : RefusalCode)
  deriving DecidableEq, Repr

/-- The notices a block raises (Table 70, without READY). -/
inductive Notice where
  | lock (lane : Lane) (state : LaneState) (sequence : Nat)
  | cadence (lane : Lane) (state : Tracker) (position : Option Nat) (sequence : Nat)
  | overrun (lane : Lane) (sequence : Nat)
  | completion (record : Completion)
  deriving DecidableEq, Repr

/-- A reply (R168, R192): the request's KIND and TAG, the outcome, the CLAMPED flag and the data. -/
structure Reply where
  kind    : Byte
  tag     : Byte
  outcome : ReplyOutcome
  clamped : Bool
  data    : List Byte
  deriving DecidableEq, Repr

/-- What an outbound record says. -/
inductive Message where
  | ready
  | notice (n : Notice)
  | reply (r : Reply)
  deriving DecidableEq, Repr

/-- The set of link flags (R165). -/
structure LinkFlags where
  truncated   : Bool
  format      : Bool
  checkFailed : Bool
  overrun     : Bool
  noticesLost : Bool
  deriving DecidableEq, Repr

/-- The empty set. -/
def LinkFlags.empty : LinkFlags := ⟨false, false, false, false, false⟩

/-- A record of the outbound queue: its message, and its LINK byte once its first start has filled it (R173). -/
structure Record where
  message : Message
  link    : Option LinkFlags
  deriving DecidableEq, Repr

/-- The record in flight with the count of its bytes shifted out (Table 66). `orphan` marks a record that a RESET has
taken out of the queue and that is sent on to its CHECK byte (R179); any other is the head of the queue. -/
structure InFlight where
  record : Record
  count  : Nat
  orphan : Bool
  deriving DecidableEq, Repr

/-- A request frame that has passed the frame check (R164). -/
structure Request where
  kind : Byte
  tag  : Byte
  body : List Byte
  deriving DecidableEq, Repr

/-- The receiver (Table 67) with the frame under assembly: its LENGTH byte and the bytes kept so far, oldest first. -/
inductive Receiver where
  | hunt
  | length
  | body (len : Nat) (bytes : List Byte)
  | check (len : Nat) (bytes : List Byte)
  deriving DecidableEq, Repr

/-- The byte time under way (R160, R172): none while select is high; `startDue`, one begun with no record in flight and a
record waiting, whose start out has not been taken yet; `filler`, one that shifts out 00h; `carrying`, one that shifts
out a byte of the record in flight. -/
inductive ByteTime where
  | closed | startDue | filler | carrying
  deriving DecidableEq, Repr

/-- The Control Link Interface (Table 66). `selected` is select low. Attention is a function of the outbound queue
(R175, `Link.attention`). -/
structure Link where
  selected : Bool
  byteTime : ByteTime
  receiver : Receiver
  requests : List Request
  outbound : List Record
  inFlight : Option InFlight
  flags    : LinkFlags
  deriving DecidableEq, Repr

/-- The interface at power-on (R178); select is the host's, and the model starts it high (log entry 4). -/
def Link.powerOn : Link where
  selected := false
  byteTime := .closed
  receiver := .hunt
  requests := []
  outbound := [⟨.ready, Option.none⟩]
  inFlight := Option.none
  flags    := LinkFlags.empty

/-! ## The machine -/

/-- Why the machine would stop with a fault. It has no constructor: the spec describes no event that stops the part, and
no command of the table ends in a fault. -/
inductive Fault where
  deriving DecidableEq, Repr

/-- Why a command has no meaning here. -/
inductive Refusal where
  /-- Raised by `exec` for a command that has no meaning yet, by its mnemonic (safe). -/
  | notModelled (mnemonic : String)
  /-- Raised by SELF_TEST_END with a failing unit that is no unit of the part: an ill-formed command, which names no
  event the part can have (R48; safe). -/
  | illFormed
  deriving DecidableEq, Repr

/-- The machine: the blocks of the part, its Control Link Interface, and the queue of commands that wait, first in,
first out. -/
structure State where
  dev     : Device
  link    : Link
  pending : List Instr
  deriving DecidableEq, Repr

/-- The machine right after power-on reset (R178, R185). -/
def State.reset : State where
  dev     := Device.powerOn
  link    := Link.powerOn
  pending := []

/-- What an event makes of the blocks, with the notices it issues in the order they arise; the link takes them at the
end of the event (R169). -/
structure Ev where
  dev   : Device
  notes : List Notice
  deriving DecidableEq, Repr

end Sys2Proof.Machine
end

