-- ==== Sys2Proof/Machine/Ops.lean ====
section
/-! DEFINITION. The named operations the events share: lanes, the stacked DRAM, the slot table with its free list and
references, and the notices with their way into the outbound queue. -/
namespace Sys2Proof.Machine

/-! ## Numbers -/

/-- A count that stops at its top (R10, R131). -/
def satAdd (top a b : Nat) : Nat := min top (a + b)

/-- Clamping into a range (Table 73, R109). -/
def clampNat (lo hi v : Nat) : Nat := max lo (min hi v)

/-- Lines of a field (Table 8). -/
def Standard.lines : Standard → Nat
  | .s625 => 288
  | .s525 => 243

/-- Lines of a reconstructed frame (Table 4). -/
def Standard.frameLines (std : Standard) : Nat := 2 * std.lines

/-! ## Lanes -/

/-- The unit of lane `l`. -/
def Device.lane (d : Device) (l : Lane) : LaneUnit := d.lanes[l]

/-- The part with lane `l`'s unit changed by `f`. -/
def Device.modLane (d : Device) (l : Lane) (f : LaneUnit → LaneUnit) : Device :=
  { d with lanes := d.lanes.set l (f d.lanes[l]) }

/-- An event with lane `l`'s unit changed by `f`. -/
def Ev.modLane (e : Ev) (l : Lane) (f : LaneUnit → LaneUnit) : Ev := { e with dev := e.dev.modLane l f }

/-- An event with lane `l`'s Operation Controller changed by `f`. -/
def Ev.modOp (e : Ev) (l : Lane) (f : Controller → Controller) : Ev := e.modLane l fun u => { u with op := f u.op }

/-- An event whose part is changed by `f`. -/
def Ev.modDev (e : Ev) (f : Device → Device) : Ev := { e with dev := f e.dev }

/-- The part with the stacked DRAM replaced. -/
def Device.setDram (d : Device) (m : Dram) : Device := { d with dram := m }

/-- An event with the stacked DRAM replaced. -/
def Ev.setDram (e : Ev) (m : Dram) : Ev := e.modDev fun d => d.setDram m

/-- An event that has issued one more notice. -/
def Ev.note (e : Ev) (n : Notice) : Ev := { e with notes := e.notes ++ [n] }

/-- An event that has issued no notice yet. -/
def Ev.start (d : Device) : Ev := ⟨d, []⟩

/-! ## The stacked DRAM (R31) -/

/-- The container that holds word `word` of field line `line` in slot `i`: slots lie from 0 up, 2 MiB (2^20 containers of
16 bits) each (R31, log entry 2). -/
def fieldAddr (i : SlotId) (line word : Nat) : Nat := i.val * 1048576 + line * 1440 + word

/-- The container of word `word` of raster line `line` in frame buffer `b` of lane `l`: the buffers follow the slots,
8 MiB (2^22 containers) each (R31, R120, log entry 2). -/
def bufferAddr (l : Lane) (b : Fin 2) (line word : Nat) : Nat :=
  96 * 1048576 + (2 * l.val + b.val) * 4194304 + line * 3840 + word

/-- The region a container lies in: 0 for the field slots, 1 + k for frame buffer k (R31). -/
def dramRegion (a : Nat) : Fin 9 :=
  if a < 96 * 1048576 then 0 else Fin.ofNat 9 (1 + min 7 ((a - 96 * 1048576) / 4194304))

/-- The region of frame buffer `b` of lane `l`, that is of frame buffer 2L + b (R31). -/
def bufferRegion (l : Lane) (b : Fin 2) : Fin 9 := Fin.ofNat 9 (1 + 2 * l.val + b.val)

/-- The known sample of a container, if it is listed. -/
def findCell (a : Nat) : List (Nat × Sample) → Option Sample
  | [] => none
  | c :: cs => if c.1 = a then some c.2 else findCell a cs

/-- The cells after a write to container `a`. -/
def setCell (a : Nat) (v : Sample) : List (Nat × Sample) → List (Nat × Sample)
  | [] => [(a, v)]
  | c :: cs =>
    if a < c.1 then (a, v) :: c :: cs
    else if c.1 = a then (a, v) :: cs
    else c :: setCell a v cs

/-- Consecutive cells from address `a`. -/
def cellsFrom (a : Nat) : List Sample → List (Nat × Sample)
  | [] => []
  | v :: vs => (a, v) :: cellsFrom (a + 1) vs

/-- Are the addresses strictly rising, all of them at `lo` or above? -/
def risingFrom (lo : Nat) : List (Nat × Sample) → Bool
  | [] => true
  | c :: cs => lo ≤ c.1 && risingFrom (c.1 + 1) cs

/-- The canonical form of the DRAM: its cells' addresses rise strictly. -/
def Dram.wf (m : Dram) : Bool := risingFrom 0 m.cells

/-- What container `a` reads as: its known sample, or the free value of undefined contents (log entry 3). -/
def Dram.read (m : Dram) (a : Nat) : Sample := (findCell a m.cells).getD (Config.undefinedWord m.gens[dramRegion a] a)

/-- A write of one container. -/
def Dram.write (m : Dram) (a : Nat) (v : Sample) : Dram := { m with cells := setCell a v m.cells }

/-- A write of consecutive containers from `a`. -/
def Dram.writeRun (m : Dram) (a : Nat) (vs : List Sample) : Dram :=
  { m with
    cells := m.cells.filter (fun c => c.1 < a) ++ cellsFrom a vs ++ m.cells.filter (fun c => a + vs.length ≤ c.1) }

/-- The contents of one region become undefined (R97, R128). -/
def Dram.forget (m : Dram) (g : Fin 9) : Dram where
  cells := m.cells.filter fun c => dramRegion c.1 ≠ g
  gens  := m.gens.set g (m.gens[g] + 1)

/-- The contents of the whole device become undefined (R48, R178). -/
def Dram.forgetAll (m : Dram) : Dram where
  cells := []
  gens  := m.gens.map (· + 1)

/-- A frame buffer is freed with its contents undefined (R97, R128). -/
def Dram.forgetBuffer (m : Dram) (l : Lane) (b : Fin 2) : Dram := m.forget (bufferRegion l b)

/-- All eight frame buffers' contents become undefined (R128). -/
def Dram.forgetBuffers (m : Dram) : Dram where
  cells := m.cells.filter fun c => dramRegion c.1 = 0
  gens  := Vector.ofFn fun (g : Fin 9) => if g = 0 then m.gens[g] else m.gens[g] + 1

/-! ## The slot table, the free list and references -/

/-- The entry of slot `i`. -/
def Device.slot (d : Device) (i : SlotId) : Slot := d.slots[i]

/-- The part with slot `i`'s entry replaced. -/
def Device.setSlot (d : Device) (i : SlotId) (x : Slot) : Device := { d with slots := d.slots.set i x }

/-- The field record kept with slot `i`, where it holds one. -/
def Device.record (d : Device) (i : SlotId) : Option FieldRecord := (d.slot i).record

/-- The part with slot `i`'s field record changed by `f`. -/
def Device.modRecord (d : Device) (i : SlotId) (f : FieldRecord → FieldRecord) : Device :=
  d.setSlot i { d.slot i with record := (d.slot i).record.map f }

/-- A lane's slots in use: the slots it owns (R34). -/
def Device.slotsInUse (d : Device) (l : Lane) : Nat :=
  ((List.finRange 96).filter fun i => (d.slot i).owner = some l).length

/-- One reference more on slot `i` (R44). -/
def Device.takeRef (d : Device) (i : SlotId) : Device := d.setSlot i { d.slot i with refs := (d.slot i).refs + 1 }

/-- One reference less on slot `i`, not yet freed (R45). -/
def Device.dropRef (d : Device) (i : SlotId) : Device := d.setSlot i { d.slot i with refs := (d.slot i).refs - 1 }

/-- Slot `i` becomes FREE and its number joins the tail of the free list (R33, R41, R45). -/
def Device.freeSlot (d : Device) (i : SlotId) : Device :=
  { d.setSlot i Slot.empty with freeList := d.freeList ++ [i] }

/-- `i` put into a list of slots that rises by the key `k`. -/
def insertBy (k : SlotId → Nat) (i : SlotId) : List SlotId → List SlotId
  | [] => [i]
  | j :: js => if k i ≤ k j then i :: j :: js else j :: insertBy k i js

/-- Slots in ascending order of the key `k`. -/
def sortBy (k : SlotId → Nat) : List SlotId → List SlotId
  | [] => []
  | i :: is => insertBy k i (sortBy k is)

/-- The slots that one event frees: the WRITING slots it abandons, and the slots among `refs` whose count is 0 after the
references are given back, in ascending order of field sequence (R33, R41, R45). -/
def Device.slotsToFree (d : Device) (refs writing : List SlotId) : List SlotId :=
  sortBy (fun i => (d.slot i).sequence.getD 0) <|
    (List.finRange 96).filter fun i =>
      (i ∈ writing && (d.slot i).state = .writing) ||
      (i ∈ refs && (d.slot i).state = .held && (d.slot i).refs = 0)

/-- One event gives back one reference for each entry of `refs` and abandons the WRITING slots `writing` (R33, R41, R45,
R46). -/
def Device.giveBack (d : Device) (refs writing : List SlotId) : Device :=
  let d1 := refs.foldl Device.dropRef d
  (d1.slotsToFree refs writing).foldl Device.freeSlot d1

/-- The member of lane `l`'s history window with exactly the sequence `n` (R42, R64). -/
def Device.member (d : Device) (l : Lane) (n : Nat) : Option SlotId :=
  (d.lane l).window.find? fun i => (d.slot i).sequence = some n

/-- The member of lane `l`'s history window with the sequence `n - k`, when there is such a sequence (R54, R65, R66). -/
def Device.earlier (d : Device) (l : Lane) (n k : Nat) : Option SlotId :=
  if k ≤ n then d.member l (n - k) else none

/-! ## Notices and the outbound queue -/

/-- Is the message a reply? (Table 69) -/
def Message.isReply : Message → Bool
  | .reply _ => true
  | _ => false

/-- Is the message a COMPLETION of lane `l`? (Table 69) -/
def Message.isCompletionOf (l : Lane) : Message → Bool
  | .notice (.completion c) => c.lane = l
  | _ => false

/-- Is the message of the general class: READY, LOCK, CADENCE or OVERRUN? (Table 69) -/
def Message.isGeneral : Message → Bool
  | .ready => true
  | .notice (.completion _) => false
  | .notice _ => true
  | .reply _ => false

/-- Replies in the outbound queue. -/
def Link.replies (k : Link) : Nat := (k.outbound.filter fun r => r.message.isReply).length

/-- General records in the outbound queue. -/
def Link.generals (k : Link) : Nat := (k.outbound.filter fun r => r.message.isGeneral).length

/-- Does the outbound queue hold a COMPLETION of lane `l`? -/
def Link.hasCompletion (k : Link) (l : Lane) : Bool := k.outbound.any fun r => r.message.isCompletionOf l

/-- The attention line: asserted while the outbound queue holds a record (R175). -/
def Link.attention (k : Link) : Bool := !k.outbound.isEmpty

/-- A record joins the outbound queue's tail, its LINK byte not filled yet (R169, R173). -/
def Link.join (k : Link) (m : Message) : Link := { k with outbound := k.outbound ++ [⟨m, none⟩] }

/-- Is the notice's kind enabled? COMPLETION is not maskable (R176). -/
def NoticeMask.enables (mask : NoticeMask) : Notice → Bool
  | .lock _ _ _ => mask.lock
  | .cadence _ _ _ _ => mask.cadence
  | .overrun _ _ => mask.overrun
  | .completion _ => true

/-- A LOCK, CADENCE or OVERRUN notice reaches the outbound queue (R170). -/
def Link.offerGeneral (k : Link) (mask : NoticeMask) (n : Notice) : Link :=
  if !mask.enables n then k
  else if Config.generalPlaces ≤ k.generals then { k with flags := { k.flags with noticesLost := true } }
  else k.join (.notice n)

/-- The place of a notice's kind in the order in which one event's records join (R169). -/
def Notice.rank : Notice → Nat
  | .lock _ _ _ => 0
  | .cadence _ _ _ _ => 1
  | .overrun _ _ => 2
  | .completion _ => 3

/-- One event's notices in the order in which they join (R169). -/
def orderNotices (ns : List Notice) : List Notice :=
  ns.filter (fun n => n.rank = 0) ++ ns.filter (fun n => n.rank = 1) ++ ns.filter (fun n => n.rank = 2) ++
    ns.filter (fun n => n.rank = 3)

/-- A completion record is issued: it joins the queue, or is held while the lane's previous COMPLETION is there
(R134, R171). -/
def issueCompletion (d : Device) (k : Link) (c : Completion) : Device × Link :=
  if k.hasCompletion c.lane then (d.modLane c.lane fun u => { u with op := { u.op with held := some c } }, k)
  else (d, k.join (.notice (.completion c)))

/-- One notice reaches the link (R170, R171). -/
def issueNotice (p : Device × Link) (n : Notice) : Device × Link :=
  match n with
  | .completion c => issueCompletion p.1 p.2 c
  | n => (p.1, p.2.offerGeneral p.1.handler.mask n)

/-- An event ends: its notices reach the link in their order (R169). -/
def Ev.commit (e : Ev) (k : Link) : Device × Link := (orderNotices e.notes).foldl issueNotice (e.dev, k)

/-- The state after an event of the blocks. -/
def State.event (s : State) (f : Ev → Ev) : State :=
  let p := (f (Ev.start s.dev)).commit s.link
  { s with dev := p.1, link := p.2 }

end Sys2Proof.Machine
end

