-- ==== Sys2Proof/Machine/Assembly.lean ====
section
/-! DEFINITION. Field assembly: words, lines, padding and the run builder (01_ingest_lanes sections 1.6 and 1.10). -/
namespace Sys2Proof.Machine

/-- Black at a word position of a line: Y 64 on the odd words, Cb and Cr 512 on the even ones (R2, R11). -/
def blackWord (w : Nat) : Sample := if w % 2 = 1 then 64 else 512

/-- `n` black words from word position `w`. -/
def blackRun (w n : Nat) : List Sample := (List.range' w n).map blackWord

/-- Is luma position `p` flagged, when the words `flagged` of its line are: by its own word, or by a co-sited chroma
word (R15)? -/
def positionFlagged (flagged : List Nat) (p : Nat) : Bool :=
  (2 * p + 1) ∈ flagged || (4 * (p / 2)) ∈ flagged || (4 * (p / 2) + 2) ∈ flagged

/-- A flagged position of line `line` meets the dropout list: absorbed by a REST span, extending the last run of its
line over at most 3 unflagged positions, opening a new run, or turning the 32nd span into a REST span (R15, R16). -/
def addFlag (line : Nat) (spans : List Span) (p : Nat) : List Span :=
  match spans.getLast? with
  | none => [⟨line, p, p, .run, .notAttempted⟩]
  | some s =>
    if s.kind = .rest then spans
    else if s.line = line && p ≤ s.last + 4 then spans.dropLast ++ [{ s with last := p }]
    else if Config.maxSpans ≤ spans.length then
      spans.dropLast ++ [{ s with first := 0, last := 719, kind := .rest }]
    else spans ++ [⟨line, p, p, .run, .notAttempted⟩]

/-- At the end of a line's scan, its runs that cover the whole line take kind LINE (R15). -/
def markLine (line : Nat) (s : Span) : Span :=
  if s.line = line && s.kind = .run && s.first = 0 && s.last = 719 then { s with kind := .line } else s

/-- The run builder at the close of line `line` with the flagged words `flagged` (R15, R16). -/
def buildLine (line : Nat) (flagged : List Nat) (spans : List Span) : List Span :=
  (((List.range 720).filter (positionFlagged flagged)).foldl (addFlag line) spans).map (markLine line)

/-- The open field that a field-start opens (R5). -/
def OpenField.start (seq : Nat) (parity : Parity) (held : Bool) : OpenField where
  sequence  := seq
  parity    := parity
  held      := held
  label     := noLabel seq
  lines     := 0
  lineOpen  := false
  words     := 0
  flagged   := []
  malformed := false
  slot      := none
  spans     := []

/-- The current line closes: a short line sets the malformed mark and, in a field with a slot, is padded with black
words taken as flagged; the run builder takes the line's flags (R7, R11, R15). Excess lines are discarded (R7). -/
def closeLine (std : Standard) (m : Dram) (f : OpenField) : OpenField × Dram :=
  if !f.lineOpen then (f, m)
  else
    let line := f.lines - 1
    let f1 := { f with lineOpen := false, flagged := [], malformed := f.malformed || decide (f.words < 1440) }
    match f.slot with
    | none => (f1, m)
    | some i =>
      if line < std.lines then
        ({ f1 with spans := buildLine line (f.flagged ++ List.range' f.words (1440 - f.words)) f.spans },
          m.writeRun (fieldAddr i line f.words) (blackRun f.words (1440 - f.words)))
      else (f1, m)

/-- A line opens; a line beyond the standard's count is an excess line, and its discard sets the malformed mark (R7). -/
def openLine (std : Standard) (f : OpenField) : OpenField :=
  { f with
    lines := f.lines + 1, lineOpen := true, words := 0, flagged := []
    malformed := f.malformed || decide (std.lines ≤ f.lines) }

/-- A word arrives in the open field: ignored while no line is open; else counted and, in a field with a slot, written
with its dropout flag kept; an excess word, or a word of an excess line, is discarded and sets the malformed mark
(R7). -/
def takeWord (std : Standard) (m : Dram) (f : OpenField) (v : Sample) (dropout : Bool) : OpenField × Dram :=
  if !f.lineOpen then (f, m)
  else if std.lines < f.lines || 1440 ≤ f.words then
    ({ f with words := min 1440 (f.words + 1), malformed := true }, m)
  else
    let f1 := { f with words := f.words + 1 }
    match f.slot with
    | none => (f1, m)
    | some i =>
      ({ f1 with flagged := if dropout then f.flagged ++ [f.words] else f.flagged },
        m.write (fieldAddr i (f.lines - 1) f.words) v)

/-- One missing line of a short field is written black, all of it taken as flagged (R11). -/
def padLine (i : SlotId) (p : List Span × Dram) (line : Nat) : List Span × Dram :=
  (buildLine line (List.range 1440) p.1, p.2.writeRun (fieldAddr i line 0) (blackRun 0 1440))

/-- The missing lines of a short field in slot `i` are padded, and a field that did not receive exactly the standard's
lines carries the malformed mark (R8, R11). -/
def padField (std : Standard) (i : SlotId) (m : Dram) (f : OpenField) : OpenField × Dram :=
  let p := (List.range' f.lines (std.lines - f.lines)).foldl (padLine i) (f.spans, m)
  ({ f with spans := p.1, malformed := f.malformed || decide (f.lines ≠ std.lines) }, p.2)

/-- Is the closed field well-formed, after its current line was closed? (R8) -/
def OpenField.wellFormed (f : OpenField) (std : Standard) (prev : Option Parity) : Bool :=
  f.lines = std.lines && !f.malformed && decide (prev ≠ some f.parity)

/-- The field record at hand-off (R13). -/
def OpenField.handOff (f : OpenField) (discontinuity : Bool) : FieldRecord :=
  { FieldRecord.fresh f.sequence f.parity f.held with
    malformed := f.malformed, discontinuity := discontinuity, label := f.label, spans := f.spans }

end Sys2Proof.Machine
end

