-- ==== Sys2Proof/Machine/Cadence.lean ====
section
/-! DEFINITION. The field measures and the cadence tracker (05_field_measures_and_the_cadence_tracker). -/
namespace Sys2Proof.Machine

/-! ## Measures -/

/-- The luma sample of field line `line`, position `x`, as it stands in slot `i` (R2, R64). -/
def Dram.luma (m : Dram) (i : SlotId) (line x : Nat) : Nat := (m.read (fieldAddr i line (2 * x + 1))).toNat

/-- The sum of `f line x` over the measuring grid: positions 0, 8, … 712 on every line (R64). -/
def gridSum (std : Standard) (f : Nat → Nat → Nat) : Nat :=
  ((List.range std.lines).map fun line => ((List.range 90).map fun k => f line (8 * k)).sum).sum

/-- The grid count C (R64). -/
def gridCount (std : Standard) : Nat := 90 * std.lines

/-- The magnitude of the difference of two samples. -/
def absDiff (a b : Nat) : Nat := (a - b) + (b - a)

/-- Dsame from the lumas of fields n and n-2 (R65). -/
def dsameValue (std : Standard) (yn yp : Nat → Nat → Nat) : Nat :=
  16 * gridSum std (fun line x => absDiff (yn line x) (yp line x)) / gridCount std

/-- The frame line above `y`, or the one below where `y` is the frame's first (R66, R101). -/
def lineAbove (y : Nat) : Nat := if y = 0 then y + 1 else y - 1

/-- The frame line below `y`, or the one above where `y` is the frame's last (R66, R101). -/
def lineBelow (frame y : Nat) : Nat := if y + 1 = frame then y - 1 else y + 1

/-- One term of the comb sum: field n's sample at field line `line`, position `x`, against the lines above and below it
from field n-1 (R66). -/
def combTerm (std : Standard) (parity : Parity) (yn yp : Nat → Nat → Nat) (line x : Nat) : Nat :=
  let y := 2 * line + parity.val
  absDiff (2 * yn line x) (yp (lineAbove y / 2) x + yp (lineBelow std.frameLines y / 2) x)

/-- Dadj from field n's parity and the lumas of fields n and n-1 (R66). -/
def dadjValue (std : Standard) (parity : Parity) (yn yp : Nat → Nat → Nat) : Nat :=
  8 * gridSum std (combTerm std parity yn yp) / gridCount std

/-- Level from the luma of field n (R67). -/
def levelValue (std : Standard) (yn : Nat → Nat → Nat) : Nat := 16 * gridSum std yn / gridCount std

/-- Field n's Dsame: present when the window holds field n-2 with field n's parity (R65). -/
def Device.dsame (d : Device) (l : Lane) (i : SlotId) (r : FieldRecord) : Option Nat :=
  match d.earlier l r.sequence 2 with
  | some j =>
    match d.record j with
    | some rp =>
      if rp.parity = r.parity then
        some (dsameValue (d.lane l).settings.standard (d.dram.luma i) (d.dram.luma j))
      else none
    | none => none
  | none => none

/-- Field n's Dadj: present when the window holds field n-1 (R66). -/
def Device.dadj (d : Device) (l : Lane) (i : SlotId) (r : FieldRecord) : Option Nat :=
  (d.earlier l r.sequence 1).map fun j =>
    dadjValue (d.lane l).settings.standard r.parity (d.dram.luma i) (d.dram.luma j)

/-- Field n's Level (R67). -/
def Device.level (d : Device) (l : Lane) (i : SlotId) : Nat :=
  levelValue (d.lane l).settings.standard (d.dram.luma i)

/-- A flag: absent with its measure, else set when the measure is less than the threshold (R69). -/
def measureFlag (measure : Option Nat) (threshold : Nat) : Option Bool := measure.map fun v => decide (v < threshold)

/-! ## Patterns and hypotheses -/

/-- The period of a locked pattern: 2:2 under FILM_22, 2:3 under FILM_32 (R71). -/
def Tracker.period : Tracker → Nat
  | .video => 1
  | .film22 => 2
  | .film32 => 5

/-- The expected pair (a, r) of a pattern at a position (Table 31). -/
def expectedPair : Tracker → Nat → Bool × Bool
  | .film22, 0 => (false, false)
  | .film22, _ => (true, false)
  | .film32, 0 => (false, false)
  | .film32, 1 => (true, false)
  | .film32, 2 => (false, false)
  | .film32, 3 => (true, false)
  | .film32, _ => (true, true)
  | .video, _ => (false, false)

/-- The pattern a hypothesis follows: h0 and h1 2:2, h2 to h6 2:3 (R72). -/
def hypPattern (h : Fin 7) : Tracker := if h.val < 2 then .film22 else .film32

/-- Is hypothesis `h` enabled under the standard? (R72) -/
def hypEnabled (std : Standard) (h : Fin 7) : Bool :=
  match std with
  | .s625 => h.val < 2
  | .s525 => true

/-- A tracker reset (section 5.7): VIDEO, runs 0, mismatch run 0, no film position; positions stand. -/
def Monitor.resetTracker (m : Monitor) : Monitor :=
  { m with
    tracker := .video, filmPos := none, mismatch := 0
    hyps := m.hyps.map fun h => { h with run := 0 } }

/-- A hypothesis's run after a field in VIDEO (R74, Table 32). -/
def scoreRun (expected pair : Bool × Bool) (run : Nat) : Nat :=
  if pair = expected then run + 1
  else if pair = (true, true) then run
  else 0

/-- The runs after a field in VIDEO (R74). -/
def Monitor.score (m : Monitor) (std : Standard) (pair : Bool × Bool) : Monitor :=
  { m with
    hyps := Vector.ofFn fun (h : Fin 7) =>
      if hypEnabled std h then
        { m.hyps[h] with run := scoreRun (expectedPair (hypPattern h) m.hyps[h].position) pair m.hyps[h].run }
      else m.hyps[h] }

/-- The winning hypothesis after the runs were updated: the lowest-numbered 2:3 hypothesis at lockCount, or else the
lowest-numbered 2:2 one (R75). -/
def Monitor.winner (m : Monitor) (std : Standard) (lockCount : Nat) : Option (Fin 7) :=
  let atLock := fun (h : Fin 7) => hypEnabled std h && decide (m.hyps[h].run = lockCount)
  match (List.finRange 7).find? fun h => atLock h && decide (hypPattern h = .film32) with
  | some h => some h
  | none => (List.finRange 7).find? atLock

/-- Judging in VIDEO: the runs, and the lock when a hypothesis reaches lockCount; with the position the field's record
shows (R74, R75, R81). The film position is advanced with the others at the end of the event. -/
def Monitor.judgeVideo (m : Monitor) (std : Standard) (lockCount : Nat) (pair : Bool × Bool) : Monitor × Option Nat :=
  let m1 := m.score std pair
  match m1.winner std lockCount with
  | some h =>
    ({ m1 with tracker := hypPattern h, filmPos := some m1.hyps[h].position, mismatch := 0 }, some m1.hyps[h].position)
  | none => (m1, none)

/-- Judging in FILM at film position `pos` (R76, R77, Table 34). -/
def Monitor.judgeFilm (m : Monitor) (pos : Nat) (pair : Bool × Bool) : Monitor × Option Nat :=
  let expected := expectedPair m.tracker pos
  if pair = expected then ({ m with mismatch := 0 }, some pos)
  else if expected.1 && !pair.1 then (m.resetTracker, none)
  else if pair = (true, true) then (m, some pos)
  else if 3 ≤ m.mismatch + 1 then (m.resetTracker, none)
  else ({ m with mismatch := m.mismatch + 1 }, some pos)

/-- The tracker's work on a field: its reset for the discontinuity mark or the held flag (R79), then the judgement of a
field that is fully measured and not held (R74 to R77, R80); with the position recorded (R81). -/
def Monitor.judge (m : Monitor) (set : Settings) (discontinuity held : Bool) (a r : Option Bool) :
    Monitor × Option Nat :=
  let m0 := if discontinuity || held then m.resetTracker else m
  if held then (m0, none)
  else
    match a, r with
    | some a, some r =>
      match m0.tracker, m0.filmPos with
      | .video, _ => if set.cadenceEnable then m0.judgeVideo set.standard set.lockCount (a, r) else (m0, none)
      | _, some pos => m0.judgeFilm pos (a, r)
      | _, none => (m0, none)
    | _, _ => (m0, none)

/-- Every position advances by one step, the film position too while a pattern is locked (R73). -/
def Monitor.advance (m : Monitor) : Monitor :=
  { m with
    hyps := Vector.ofFn fun (h : Fin 7) =>
      { m.hyps[h] with position := (m.hyps[h].position + 1) % (hypPattern h).period }
    filmPos :=
      match m.tracker with
      | .video => m.filmPos
      | t => m.filmPos.map fun p => (p + 1) % t.period }

/-! ## The tracker's events -/

/-- The tracker of lane `l` takes the values `m`, with a CADENCE notice carrying `seq` when its state differs (R82). -/
def Ev.setMonitor (e : Ev) (l : Lane) (m : Monitor) (seq : Nat) : Ev :=
  let old := (e.dev.lane l).monitor.tracker
  let e1 := e.modLane l fun u => { u with monitor := m }
  if m.tracker = old then e1 else e1.note (.cadence l m.tracker m.filmPos seq)

/-- A tracker reset of lane `l`, its notice carrying `seq` (R70, R78). -/
def Ev.resetTracker (e : Ev) (l : Lane) (seq : Nat) : Ev :=
  e.setMonitor l (e.dev.lane l).monitor.resetTracker seq

/-- What the Monitor's event writes into the field record (R68, R69, R81). -/
def FieldRecord.withMeasures (r : FieldRecord) (set : Settings) (dsame dadj : Option Nat) (level : Nat)
    (tracker : Tracker) (position : Option Nat) : FieldRecord :=
  { r with
    measured := true, dsame := dsame, dadj := dadj, level := some level
    flagA := measureFlag dadj set.combThr
    flagR := measureFlag dsame set.repeatThr
    fullyMeasured := dadj.isSome && dsame.isSome
    tracker := tracker, position := position }

/-- The Cadence Monitor's event for the field in slot `i` (R63): reset, measures and flags, judgement, record, advance,
notice, and the hand-off to the Operation Controller. -/
def Ev.monitorField (e : Ev) (l : Lane) (i : SlotId) : Ev :=
  match e.dev.record i with
  | none => e
  | some r =>
    let u := e.dev.lane l
    let dsame := e.dev.dsame l i r
    let dadj := e.dev.dadj l i r
    let j := u.monitor.judge u.settings r.discontinuity r.held (measureFlag dadj u.settings.combThr)
      (measureFlag dsame u.settings.repeatThr)
    let r1 := r.withMeasures u.settings dsame dadj (e.dev.level l i) j.1.tracker j.2
    let e1 := e.modDev fun d => d.modRecord i fun _ => r1
    (e1.setMonitor l j.1.advance r.sequence).modLane l fun u => { u with chain := some ⟨.controller, i⟩ }

end Sys2Proof.Machine
end

