-- ==== Sys2Proof/Machine/Repair.lean ====
section
/-! DEFINITION. Dropout compensation: units, candidates, repairs and outcomes (04_dropout_compensation). -/
namespace Sys2Proof.Machine

/-- Does a span cover position `p` of line `line`? A REST span covers every position of its own line and of every later
one (R16, R54). -/
def Span.covers (s : Span) (line p : Nat) : Bool :=
  if s.kind = .rest then s.line ≤ line else s.line = line && s.first ≤ p && p ≤ s.last

/-- Does a span cover any position `first` to `last` of line `line`? (R54, R56) -/
def Span.touches (s : Span) (line first last : Nat) : Bool :=
  if s.kind = .rest then s.line ≤ line else s.line = line && s.first ≤ last && first ≤ s.last

/-- Is the span's area not to be trusted: outcome UNREPAIRED or NOT_ATTEMPTED? (R54, R86, R104) -/
def Span.untrusted (s : Span) : Bool := s.outcome = .unrepaired || s.outcome = .notAttempted

/-- Is position `p` of line `line` inside an untrusted span of the list? (R104, R107) -/
def untrustedAt (spans : List Span) (line p : Nat) : Bool := spans.any fun s => s.untrusted && s.covers line p

/-- A repair unit: a line with a range of luma positions (R53). -/
structure RepairUnit where
  line  : Nat
  first : Nat
  last  : Nat
  deriving DecidableEq, Repr

/-- The units of a span, in the order they are handled (R53). -/
def Span.units (s : Span) (std : Standard) : List RepairUnit :=
  match s.kind with
  | .run => [⟨s.line, s.first, s.last⟩]
  | .line => [⟨s.line, 0, 719⟩]
  | .rest => (List.range' s.line (std.lines - s.line)).map fun i => ⟨i, 0, 719⟩

/-- The word positions of a unit: the luma words of its positions, and the chroma words of its pairs (R55, R57). -/
def RepairUnit.words (u : RepairUnit) : List Nat :=
  (List.range' u.first (u.last + 1 - u.first)).map (fun p => 2 * p + 1) ++
    (List.range' (u.first / 2) (u.last / 2 + 1 - u.first / 2)).flatMap fun q => [4 * q, 4 * q + 2]

/-- What the repair of a field reads besides its own slot: the field n-2 of the window, if it is there (R54). -/
structure RepairSource where
  slot   : SlotId
  parity : Parity
  spans  : List Span
  deriving DecidableEq, Repr

/-- Is the temporal candidate available? (R54) -/
def temporalAvailable (src : Option RepairSource) (parity : Parity) (u : RepairUnit) : Bool :=
  match src with
  | none => false
  | some r => r.parity = parity && r.spans.all fun s => !(s.untrusted && s.touches u.line u.first u.last)

/-- Is the spatial candidate available? `own` is field n's list as handed on (R56). -/
def spatialAvailable (std : Standard) (own : List Span) (u : RepairUnit) : Bool :=
  u.line ≠ 0 && u.line + 1 ≠ std.lines &&
    own.all fun s => !s.touches (u.line - 1) u.first u.last && !s.touches (u.line + 1) u.first u.last

/-- The unit copied from the slot `j` of field n-2 into slot `i` (R55). -/
def substitute (i j : SlotId) (u : RepairUnit) (m : Dram) : Dram :=
  u.words.foldl (fun m w => m.write (fieldAddr i u.line w) (m.read (fieldAddr j u.line w))) m

/-- The rounded average of two samples, (a + b + 1) >> 1 (R57). -/
def average (a b : Sample) : Sample := BitVec.ofNat 10 ((a.toNat + b.toNat + 1) / 2)

/-- The unit replaced by the averages of the lines above and below (R57). -/
def interpolate (i : SlotId) (u : RepairUnit) (m : Dram) : Dram :=
  u.words.foldl
    (fun m w =>
      m.write (fieldAddr i u.line w)
        (average (m.read (fieldAddr i (u.line - 1) w)) (m.read (fieldAddr i (u.line + 1) w)))) m

/-- The candidate a unit gets, in the order of the method (R58, Table 24). -/
def chooseCandidate (method : RepairMethod) (temporal spatial : Bool) : SpanOutcome :=
  match method with
  | .off => .notAttempted
  | .temporalFirst => if temporal then .substituted else if spatial then .interpolated else .unrepaired
  | .spatialFirst => if spatial then .interpolated else if temporal then .substituted else .unrepaired

/-- One unit is repaired: its result, and the DRAM after it (R55, R57, R58). -/
def repairUnit (std : Standard) (method : RepairMethod) (src : Option RepairSource) (parity : Parity)
    (own : List Span) (i : SlotId) (m : Dram) (u : RepairUnit) : SpanOutcome × Dram :=
  let res := chooseCandidate method (temporalAvailable src parity u) (spatialAvailable std own u)
  match res, src with
  | .substituted, some r => (res, substitute i r.slot u m)
  | .interpolated, _ => (res, interpolate i u m)
  | _, _ => (res, m)

/-- How bad an outcome is, for a REST span's worst (R59). -/
def SpanOutcome.badness : SpanOutcome → Nat
  | .notAttempted => 0
  | .substituted => 1
  | .interpolated => 2
  | .unrepaired => 3

/-- The worse of two outcomes (R59). -/
def SpanOutcome.worse (a b : SpanOutcome) : SpanOutcome := if a.badness < b.badness then b else a

/-- One span is repaired, unit by unit; its outcome is the worst of its units' results (R53, R59). -/
def repairSpan (std : Standard) (method : RepairMethod) (src : Option RepairSource) (parity : Parity)
    (own : List Span) (i : SlotId) (p : List Span × Dram) (s : Span) : List Span × Dram :=
  let q := (s.units std).foldl
    (fun q u =>
      let r := repairUnit std method src parity own i q.2 u
      (SpanOutcome.worse q.1 r.1, r.2)) (SpanOutcome.notAttempted, p.2)
  (p.1 ++ [{ s with outcome := q.1 }], q.2)

/-- The spans of a field repaired in list order (R53); under OFF nothing is written and no outcome changes (R52). -/
def repairSpans (std : Standard) (method : RepairMethod) (src : Option RepairSource) (parity : Parity) (i : SlotId)
    (own : List Span) (m : Dram) : List Span × Dram :=
  match method with
  | .off => (own, m)
  | _ => own.foldl (repairSpan std method src parity own i) ([], m)

/-- The number of spans with an outcome (R61). -/
def countOutcome (o : SpanOutcome) (spans : List Span) : Nat := (spans.filter fun s => s.outcome = o).length

/-- The field record with the repaired list and its counts (R61, R62). -/
def FieldRecord.withRepair (r : FieldRecord) (spans : List Span) : FieldRecord :=
  { r with
    spans := spans
    substituted := countOutcome .substituted spans
    interpolated := countOutcome .interpolated spans
    unrepaired := countOutcome .unrepaired spans }

/-- The field n-2 that a repair of lane `l`'s field n may copy from (R54). -/
def Device.repairSource (d : Device) (l : Lane) (n : Nat) : Option RepairSource :=
  match d.earlier l n 2 with
  | some j => (d.record j).map fun r => ⟨j, r.parity, r.spans⟩
  | none => none

end Sys2Proof.Machine
end

