-- ==== Sys2Proof/Machine/Operation.lean ====
section
/-! DEFINITION. The Operation Controller's shared work: counts, causes, the end of an operation and its completion record,
render jobs and their readiness, and the cut of a job (06 sections 6.1 to 6.5, 08 sections 8.1 to 8.3). -/
namespace Sys2Proof.Machine

/-! ## What an operation gathers -/

/-- The kind of the running operation (Table 77). -/
def OpState.kind : OpState → OpKind
  | .idle => .idle
  | .acquiring _ => .acquire
  | .cueing _ _ _ => .cue
  | .transfer _ _ => .transfer
  | .scanning _ => .scan
  | .probing => .probe
  | .lineTesting _ => .lineTest

/-- Is no operation running? (R129) -/
def OpState.isIdle : OpState → Bool
  | .idle => true
  | _ => false

/-- A set of causes with one more. -/
def insertCause (c : Cause) (cs : List Cause) : List Cause := if c ∈ cs then cs else cs ++ [c]

/-- A cause is observed while an operation runs (Table 61). -/
def Controller.observe (op : Controller) (c : Cause) : Controller :=
  if op.state.isIdle then op else { op with causes := insertCause c op.causes }

/-- The counts change while an operation runs (R131). -/
def Controller.count (op : Controller) (f : Counts → Counts) : Controller :=
  if op.state.isIdle then op else { op with counts := f op.counts }

/-- One field more dropped (R38, R85, R131). -/
def Counts.addDrop (c : Counts) : Counts := { c with fieldsDropped := satAdd Config.max32 c.fieldsDropped 1 }
/-- One field more taken (R131). -/
def Counts.addTaken (c : Counts) : Counts := { c with fieldsTaken := satAdd Config.max32 c.fieldsTaken 1 }
/-- One frame more sent (R151). -/
def Counts.addSent (c : Counts) : Counts := { c with framesSent := satAdd Config.max32 c.framesSent 1 }
/-- One held field more skipped (R147). -/
def Counts.addSkipped (c : Counts) : Counts := { c with heldSkipped := satAdd Config.max32 c.heldSkipped 1 }
/-- One timecode error more (R28). -/
def Counts.addTimecodeError (c : Counts) : Counts :=
  { c with timecodeErrors := satAdd Config.max32 c.timecodeErrors 1 }
/-- A field's repair counts (R61). -/
def Counts.addRepairs (c : Counts) (sub int unr : Nat) : Counts :=
  { c with
    substituted := satAdd Config.max32 c.substituted sub
    interpolated := satAdd Config.max32 c.interpolated int
    unrepaired := satAdd Config.max32 c.unrepaired unr }

/-- The reference that names a field (R132, R190). -/
def FieldRecord.ref (r : FieldRecord) : FieldRef := ⟨r.sequence, r.index, r.origin⟩

/-- A drop counts for the running operation and is observed (R38, R131, R149). -/
def Controller.drop (op : Controller) : Controller := (op.count Counts.addDrop).observe .overrun

/-! ## The end of an operation -/

/-- The completion record of the running operation, ending now (R133). -/
def Controller.record (op : Controller) (l : Lane) (part : OpPart) : Completion where
  lane   := l
  op     := op.state.kind
  tag    := op.tag
  cls    := op.endClass.getD .normal
  cause  := op.endCause
  causes := op.causes
  counts := op.counts
  first  := op.first
  last   := op.last
  part   := part

/-- The end is recorded: the class, the ending cause (which also joins the set) or none (R133, Table 62). -/
def Controller.recordEnd (op : Controller) (cls : EndClass) (cause : Option Cause) : Controller :=
  { op with
    endClass := some cls
    endCause := cause
    causes := match cause with
      | some c => insertCause c op.causes
      | none => op.causes }

/-- The last transfer tag's mark is set when the transfer completes (R153). -/
def Controller.markCompleted (op : Controller) : Option LastTag :=
  match op.state with
  | .transfer _ _ => op.lastTag.map fun t => { t with completed := true }
  | _ => op.lastTag

/-- The operation completes: the state is IDLE, the snapshot is let go, the wait timer stops, and the record is issued
(R133). -/
def Ev.complete (e : Ev) (l : Lane) (part : OpPart) : Ev :=
  let op := (e.dev.lane l).op
  (e.modOp l fun op =>
    { op with state := .idle, snapshot := none, waitTimer := false, lastTag := op.markCompleted }).note
      (.completion (op.record l part))

/-- An operation that completes in the event of its end (R133). -/
def Ev.endNow (e : Ev) (l : Lane) (cls : EndClass) (cause : Option Cause) (part : OpPart) : Ev :=
  (e.modOp l fun op => op.recordEnd cls cause).complete l part

/-- Is nothing of lane `l`'s transfer outstanding: no job pending, none running, no frame of it in the channel? (R152) -/
def Device.drained (d : Device) (l : Lane) : Bool :=
  let u := d.lane l
  u.op.jobs.isEmpty && !(d.engine.running.any fun j => j.lane = l) &&
    !(u.channel.queue.any fun f => f.transferId = u.op.transferId)

/-- A DRAINING transfer with nothing outstanding completes (R152). -/
def Ev.settle (e : Ev) (l : Lane) : Ev :=
  match (e.dev.lane l).op.state with
  | .transfer .draining _ => if e.dev.drained l then e.complete l .nothing else e
  | _ => e

/-- A transfer ends by another way than STOP and RELEASE: it enters DRAINING, and completes in the same event when
nothing is outstanding (R133, R152). -/
def Ev.endTransfer (e : Ev) (l : Lane) (cls : EndClass) (cause : Option Cause) : Ev :=
  (e.modOp l fun op =>
    match op.state with
    | .transfer _ p => { op.recordEnd cls cause with state := .transfer .draining p }
    | _ => op).settle l

/-! ## Render jobs -/

/-- The slots a job holds references on (R44). -/
def Job.slots (j : Job) : List SlotId :=
  j.fieldPrev2.toList ++ j.fieldPrev.toList ++ j.fieldSelf.toList ++ j.fieldNext.toList

/-- The expected a of a recorded FILM position, when there is one (R81, R90). -/
def FieldRecord.expectedA (r : FieldRecord) : Option Bool :=
  match r.tracker, r.position with
  | .video, _ => none
  | t, some p => some (expectedPair t p).1
  | _, none => none

/-- The mode of a job whose field has record `rn`, from whether n-1 is listed and n+1's record where it is (R90,
Table 38). -/
def decideMode (filmAware : Bool) (rn : FieldRecord) (prevListed : Bool) (next : Option FieldRecord) : RenderMode :=
  if !filmAware then .adaptive
  else
    match rn.expectedA with
    | none => .adaptive
    | some true => if prevListed then .weavePrev else .adaptive
    | some false =>
      match next with
      | some rx => if rx.flagA = some true && rx.tracker = rn.tracker then .weaveNext else .adaptive
      | none => .adaptive

/-- A job becomes READY with field n+1 in slot `next`, or without it, and its mode is decided (R88, R89, R90). -/
def Device.readyJob (d : Device) (next : Option SlotId) (j : Job) : Job :=
  match j.state with
  | .waitingNext =>
    let mode :=
      match j.fieldSelf.bind d.record with
      | some rn => decideMode j.filmAware rn j.fieldPrev.isSome (next.bind d.record)
      | none => .adaptive
    { j with state := .ready, fieldNext := next, items := { j.items with mode := some mode } }
  | _ => j

/-- The lane's waiting job, if it has one (R87). -/
def Device.waitingJob (d : Device) (l : Lane) : Option Job :=
  (d.lane l).op.jobs.find? fun j => j.state = .waitingNext

/-- The lane's waiting job becomes READY with `next`, on which it takes a reference (R44, R88), or without a next field
(R89). -/
def Device.readyWaiting (d : Device) (l : Lane) (next : Option SlotId) : Device :=
  match d.waitingJob l with
  | none => d
  | some _ =>
    let d1 := match next with
      | some i => d.takeRef i
      | none => d
    d1.modLane l fun u => { u with op := { u.op with jobs := u.op.jobs.map (d.readyJob next) } }

/-- An event in which the lane's waiting job becomes READY. -/
def Ev.readyWaiting (e : Ev) (l : Lane) (next : Option SlotId) : Ev :=
  e.modDev fun d => d.readyWaiting l next

/-- The label items a new job copies from its field's record (R86). -/
def FieldRecord.labelItems (r : FieldRecord) (discontinuity windowClamped : Bool) : LabelItems where
  sequence      := r.sequence
  index         := r.index
  origin        := r.origin
  mode          := none
  tracker       := r.tracker
  held          := r.held
  discontinuity := discontinuity
  untrusted     := r.spans.any Span.untrusted
  windowClamped := windowClamped
  substituted   := r.substituted
  interpolated  := r.interpolated
  unrepaired    := r.unrepaired

/-- A job for the field in slot `i` of lane `l`, whose record is `r`, is created at the tail of the pending job queue: it
is WAITING_NEXT, takes one reference on each of fields n-2, n-1 and n that is a member of the window, and copies its
label items (R44, R86). -/
def Device.createJob (d : Device) (l : Lane) (i : SlotId) (r : FieldRecord) (snap : Snapshot) (filmAware : Bool) :
    Device :=
  let op := (d.lane l).op
  let marks := r.discontinuity || r.gap
  let job : Job :=
    { lane := l, sequence := r.sequence, tag := op.tag, transferId := op.transferId, filmAware := filmAware
      state := .waitingNext
      fieldPrev2 := d.earlier l r.sequence 2
      fieldPrev := d.earlier l r.sequence 1
      fieldSelf := if i ∈ (d.lane l).window then some i else none
      fieldNext := none
      snapshot := snap
      buffer := none
      items := r.labelItems (marks || (op.jobsCreated ≠ 0 && op.pendingDiscontinuity)) snap.windowClamped }
  let d1 := job.slots.foldl Device.takeRef d
  d1.modLane l fun u =>
    { u with
      op :=
        { u.op with
          jobs := u.op.jobs ++ [job]
          jobsCreated := satAdd Config.maxJobsCreated u.op.jobsCreated 1
          pendingDiscontinuity := false
          first := some (u.op.first.getD r.ref)
          last := some r.ref
          lastJobIndex := r.index.or u.op.lastJobIndex } }

/-! ## Cuts -/

/-- The running job, when it is lane `l`'s. -/
def Device.runningOf (d : Device) (l : Lane) : Option Job :=
  match d.engine.running with
  | some j => if j.lane = l then some j else none
  | none => none

/-- A channel with one of its buffers in another state. -/
def Channel.setBuffer (c : Channel) (b : Fin 2) (x : BufferState) : Channel := { c with buffers := c.buffers.set b x }

/-- The frame buffer of a cut job is freed, its contents undefined (R97). -/
def Device.returnBuffer (d : Device) (j : Job) : Device :=
  match j.buffer with
  | some b =>
    { d.modLane j.lane fun u => { u with channel := u.channel.setBuffer b .free } with
      dram := d.dram.forgetBuffer j.lane b }
  | none => d

/-- The engine cuts lane `l`'s running job, if it has one: no frame is made and the buffer returns (R97). Its references
are given back with the event's others. -/
def Device.cutRunning (d : Device) (l : Lane) : Device :=
  match d.runningOf l with
  | some j => { d.returnBuffer j with engine := { d.engine with running := none } }
  | none => d

/-- The references that discarding the lane's jobs and cutting its running job give back (R97, R98). -/
def Device.jobRefs (d : Device) (l : Lane) : List SlotId :=
  (d.lane l).op.jobs.flatMap Job.slots ++ ((d.runningOf l).map Job.slots).getD []

/-- STOP and RELEASE discard the lane's pending jobs and cut its running job; what else the event gives back joins in one
batch: the references `refs` and the WRITING slots `writing` (R45, R46, R97, R98). -/
def Device.discardJobs (d : Device) (l : Lane) (refs writing : List SlotId) : Device :=
  let given := d.jobRefs l ++ refs
  let d1 := (d.cutRunning l).modLane l fun u => { u with op := { u.op with jobs := [] } }
  d1.giveBack given writing

/-- The lane's running operation, if any, ends ABORTED and completes (R140, R141). -/
def Ev.abort (e : Ev) (l : Lane) : Ev :=
  if (e.dev.lane l).op.state.isIdle then e else e.endNow l .aborted none .nothing

/-! ## Reports of lock changes and discontinuities -/

/-- What a lock loss does to the lane's operation (R143, R144): CUE, SCAN and PROBE end SOURCE_CHANGE, and so does an
ARMED or RUNNING transfer; a DRAINING one goes on. -/
def Ev.sourceChange (e : Ev) (l : Lane) (new : LaneState) : Ev :=
  let cause : Option Cause := if new = .noSignal then some .noSignal else none
  match (e.dev.lane l).op.state with
  | .cueing _ _ _ => e.endNow l .sourceChange cause .nothing
  | .scanning _ => e.endNow l .sourceChange cause .nothing
  | .probing => e.endNow l .sourceChange cause .nothing
  | .transfer .armed _ => e.endNow l .sourceChange cause .nothing
  | .transfer .running _ => e.endTransfer l .sourceChange cause
  | _ => e

/-- A lock loss reaches the Operation Controller; `kept` is the closed field's sequence when the lane kept it. The
waiting job becomes READY without its next field unless the report names that field (R89). -/
def Ev.lockLoss (e : Ev) (l : Lane) (new : LaneState) (kept : Option Nat) : Ev :=
  let e1 :=
    match e.dev.waitingJob l with
    | some j => if kept = some (j.sequence + 1) then e else e.readyWaiting l none
    | none => e
  e1.sourceChange l new

/-- The Field Store reports a drop or a discard as a discontinuity: the tracker is reset and the waiting job becomes
READY without its next field (R40, R78, R89). -/
def Ev.discontinuity (e : Ev) (l : Lane) (seq : Nat) : Ev := (e.resetTracker l seq).readyWaiting l none

/-- A change to LOCKED ends ACQUIRING NORMAL (R137). -/
def Ev.acquired (e : Ev) (l : Lane) : Ev :=
  match (e.dev.lane l).op.state with
  | .acquiring _ => e.endNow l .normal none .nothing
  | _ => e

end Sys2Proof.Machine
end

