-- ==== Sys2Proof/Machine/Timecode.lean ====
section
/-! DEFINITION. Source labels and timecode: validation, field indices, the flywheel and gaps
(02_source_labels_and_timecode). -/
namespace Sys2Proof.Machine

/-- The counting of a field (R20, Table 14). -/
def countingOf (std : Standard) (mode : TcMode) (dropBit : Bool) : Counting :=
  match mode, std with
  | .none, _ => .none
  | _, .s625 => .s625
  | .nonDrop, .s525 => .nonDrop
  | .drop, .s525 => .dropFrame
  | .follow, .s525 => if dropBit then .dropFrame else .nonDrop

/-- The highest FF of a counting (Table 14). -/
def Counting.highestFrame : Counting → Nat
  | .s625 => 24
  | _ => 29

/-- The highest index of a counting (Table 17). -/
def Counting.highestIndex : Counting → Nat
  | .s625 => 4319999
  | .dropFrame => 5178815
  | _ => 5183999

end Sys2Proof.Machine

namespace Sys2Proof
open Machine

/-- The digit at a position of Table 15. -/
def LabelWord.digit (w : LabelWord) (i : Fin 8) : Nat := (w.digits[i]).toNat

/-- The first position whose nibble is greater than 9 (R22). -/
def LabelWord.illegalDigit (w : LabelWord) : Option Nat :=
  ((List.finRange 8).find? fun i => 9 < w.digit i).map Fin.val

/-- HH (R23). -/
def LabelWord.hours (w : LabelWord) : Nat := 10 * w.digit 0 + w.digit 1
/-- MM (R23). -/
def LabelWord.minutes (w : LabelWord) : Nat := 10 * w.digit 2 + w.digit 3
/-- SS (R23). -/
def LabelWord.seconds (w : LabelWord) : Nat := 10 * w.digit 4 + w.digit 5
/-- FF (R23). -/
def LabelWord.frames (w : LabelWord) : Nat := 10 * w.digit 6 + w.digit 7

/-- The first number out of its range (R23). -/
def LabelWord.rangeError (w : LabelWord) (c : Counting) : Option LabelNumber :=
  if 23 < w.hours then some .hours
  else if 59 < w.minutes then some .minutes
  else if 59 < w.seconds then some .seconds
  else if c.highestFrame < w.frames then some .frames
  else none

/-- Does the label name a frame number that drop-frame counting skips? (R24) -/
def LabelWord.skipped (w : LabelWord) : Bool :=
  w.seconds = 0 && w.frames ≤ 1 && w.minutes % 10 ≠ 0

/-- Validation, stopping at the first check that fails (R21 to R24). -/
def LabelWord.validate (w : LabelWord) (mode : TcMode) (c : Counting) : LabelResult :=
  if mode = .none || !w.valid then .absent
  else
    match w.illegalDigit with
    | some p => .illegalDigit p
    | none =>
      match w.rangeError c with
      | some n => .range n
      | none => if c = .dropFrame && w.skipped then .dropLabel else .valid

/-- The frame count of a valid label (R25, Table 16). -/
def LabelWord.frameCount (w : LabelWord) (c : Counting) : Nat :=
  let whole := (w.hours * 60 + w.minutes) * 60 + w.seconds
  let m := 60 * w.hours + w.minutes
  match c with
  | .s625 => whole * 25 + w.frames
  | .dropFrame => 30 * (3600 * w.hours + 60 * w.minutes + w.seconds) + w.frames - 2 * (m - m / 10)
  | _ => whole * 30 + w.frames

/-- The index of a valid label: the frame count doubled, and 1 more on a field whose parity is not the dominance
(R25). -/
def LabelWord.index (w : LabelWord) (c : Counting) (parity dominance : Parity) : Nat :=
  2 * w.frameCount c + (if parity = dominance then 0 else 1)

end Sys2Proof

namespace Sys2Proof.Machine

/-- The index and counting the flywheel gives the field of sequence `seq`, when its four conditions hold (R26). -/
def LabelDecoder.flywheel (dec : LabelDecoder) (limit seq : Nat) : Option (Nat × Counting) :=
  match dec.lastJudged, dec.lastIndexed with
  | some ⟨q, some ix⟩, some li =>
    if q + 1 = seq && dec.flywheelRun < limit && ix + 1 ≤ li.counting.highestIndex then some (ix + 1, li.counting)
    else none
  | _, _ => none

/-- The gap test of an indexed field against its predecessor, the last indexed field (R27). -/
def LabelDecoder.isGap (dec : LabelDecoder) (seq index : Nat) : Bool :=
  match dec.lastIndexed with
  | none => false
  | some li => (li.index : Int) ≠ (index : Int) - ((seq : Int) - (li.sequence : Int))

/-- What judging a field gives: the label result, the counting, the index with its origin, and the GAP mark (R18). -/
structure Judgement where
  result   : LabelResult
  counting : Counting
  index    : Option Nat
  origin   : Origin
  gap      : Bool
  deriving DecidableEq, Repr

/-- The counting of an ABSENT label: fixed by standard and mode (R20). In mode FOLLOW under S525 the spec leaves it open, as
R21 does not let the decoder use the label's bit: drop-frame or not is a free value (DESIGN CHOICE, log entry 23). -/
def absentCounting (std : Standard) (mode : TcMode) (seq : Nat) : Counting :=
  countingOf std mode (Config.absentDropFrame seq)

/-- The Label Decoder judges a field (R18, R20 to R27). The counting of the record is that used on the label, or for a
FLYWHEEL index that of the last indexed field (R26); of an ABSENT label neither digits nor drop-frame bit are used (R21). -/
def LabelDecoder.judge (dec : LabelDecoder) (set : Settings) (seq : Nat) (parity : Parity) (w : LabelWord) :
    Judgement :=
  let c := countingOf set.standard set.tcMode w.dropFrame
  let res := w.validate set.tcMode c
  match res with
  | .valid =>
    let ix := w.index c parity set.dominance
    ⟨res, c, some ix, .read, dec.isGap seq ix⟩
  | _ =>
    match dec.flywheel set.flywheelLimit seq with
    | some (ix, fc) => ⟨res, fc, some ix, .flywheel, dec.isGap seq ix⟩
    | none =>
      ⟨res, if res = .absent then absentCounting set.standard set.tcMode seq else c, none, .absent, false⟩

/-- The decoder's state after a field (R26, R29). -/
def LabelDecoder.after (dec : LabelDecoder) (seq : Nat) (j : Judgement) : LabelDecoder where
  lastJudged := some ⟨seq, j.index⟩
  lastIndexed :=
    match j.index with
    | some ix => some ⟨seq, ix, j.counting⟩
    | none => dec.lastIndexed
  flywheelRun :=
    match j.origin with
    | .flywheel => dec.flywheelRun + 1
    | _ => 0

/-- What the decoder writes into the field record (R29). -/
def FieldRecord.withJudgement (r : FieldRecord) (j : Judgement) : FieldRecord :=
  { r with result := j.result, counting := j.counting, index := j.index, origin := j.origin, gap := j.gap }

/-- Is a label result an error that the operation counts? (R21, R28) -/
def LabelResult.isError : LabelResult → Bool
  | .illegalDigit _ => true
  | .range _ => true
  | .dropLabel => true
  | _ => false

end Sys2Proof.Machine
end

