-- ==== Sys2Proof/Machine/Chain.lean ====
section
/-! DEFINITION. The completion chain of a kept field: repair, label judgement with the join, the Cadence Monitor's event,
and the Operation Controller's event with the operations' tests (R18, R42, R50, R63, R85, 08_lane_operations). -/
namespace Sys2Proof.Machine

/-- The chain of lane `l` moves on. -/
def Ev.setChain (e : Ev) (l : Lane) (c : Option ChainField) : Ev := e.modLane l fun u => { u with chain := c }

/-! ## Dropout repair -/

/-- The Dropout Compensator's event for the field in slot `i` (R50): every span repaired, outcomes and counts recorded,
the counts reported, the field handed to the Label Decoder. -/
def Ev.repairField (e : Ev) (l : Lane) (i : SlotId) : Ev :=
  match e.dev.record i with
  | none => e
  | some r =>
    let u := e.dev.lane l
    let p := repairSpans u.settings.standard u.settings.repair (e.dev.repairSource l r.sequence) r.parity i r.spans
      e.dev.dram
    let r1 := r.withRepair p.1
    let e1 := (e.modDev fun d => d.modRecord i fun _ => r1).setDram p.2
    (e1.modOp l fun op =>
      op.count fun c => c.addRepairs r1.substituted r1.interpolated r1.unrepaired).setChain l (some ⟨.label, i⟩)

/-! ## Label judgement and the join -/

/-- The field in slot `i` joins lane `l`'s history window as its newest member: the slot becomes HELD with the membership
reference, and the oldest of five members leaves (R42, R43). -/
def Device.joinWindow (d : Device) (l : Lane) (i : SlotId) : Device :=
  let d1 := d.setSlot i { d.slot i with state := .held, refs := 1 }
  match (d.lane l).window ++ [i] with
  | w0 :: w1 :: w2 :: w3 :: w4 :: rest =>
    (d1.modLane l fun u => { u with window := w1 :: w2 :: w3 :: w4 :: rest }).giveBack [w0] []
  | w => d1.modLane l fun u => { u with window := w }

/-- The Label Decoder's event for the field in slot `i`: judgement, report, record, the decoder's own state, and the
hand-off to the Field Store, where the field joins the window (R18, R28, R29, R42). -/
def Ev.judgeLabel (e : Ev) (l : Lane) (i : SlotId) : Ev :=
  match e.dev.record i with
  | none => e
  | some r =>
    let u := e.dev.lane l
    let j := u.decoder.judge u.settings r.sequence r.parity r.label
    let e1 := (e.modDev fun d => d.modRecord i fun r => r.withJudgement j).modLane l fun u =>
      { u with decoder := u.decoder.after r.sequence j }
    let e2 := e1.modOp l fun op => if j.result.isError then op.count Counts.addTimecodeError else op
    (e2.modDev fun d => d.joinWindow l i).setChain l (some ⟨.monitor, i⟩)

/-! ## The Operation Controller takes a field -/

/-- First and last kept field taken, for ACQUIRE, CUE, SCAN and PROBE (R132). -/
def Controller.nameField (op : Controller) (r : FieldRecord) : Controller :=
  match op.state with
  | .acquiring _ => { op with first := some (op.first.getD r.ref), last := some r.ref }
  | .cueing _ _ _ => { op with first := some (op.first.getD r.ref), last := some r.ref }
  | .scanning _ => { op with first := some (op.first.getD r.ref), last := some r.ref }
  | .probing => { op with first := some (op.first.getD r.ref), last := some r.ref }
  | _ => op

/-- A field that carries the discontinuity or the GAP mark got no job, or a field was treated as a drop: the next job of
the transfer carries DISCONTINUITY (R86). -/
def Controller.noJobFor (op : Controller) (r : FieldRecord) : Controller :=
  if r.discontinuity || r.gap then { op with pendingDiscontinuity := true } else op

/-- A CUE's tests of a field (R142). -/
def Ev.cueField (e : Ev) (l : Lane) (r : FieldRecord) (mode : CueMode) (target limit : Nat) : Ev :=
  let e1 := e.modOp l fun op => { op with limitCount := op.limitCount + 1 }
  let op := (e1.dev.lane l).op
  let atLimit := fun (e : Ev) =>
    if limit ≤ op.limitCount then e.endNow l .abnormal (some .notFound) .nothing else e
  match r.index with
  | none => atLimit e1
  | some ix =>
    if ix = target || (mode = .atOrAfter && target ≤ ix) then e1.endNow l .normal none .nothing
    else if mode = .exact && target < ix && op.previousIndex.any (fun p => p < target) then
      e1.endNow l .abnormal (some .targetPassed) .nothing
    else atLimit (e1.modOp l fun op => { op with previousIndex := some ix })

/-- The measure a SCAN compares, where the record holds it (R156). -/
def FieldRecord.measure (r : FieldRecord) : ScanMeasure → Option Nat
  | .scene => r.dsame
  | .comb => r.dadj
  | .level => r.level

/-- Does measure `v` meet the comparison with reference `ref`? (R156) -/
def Comparison.holds (c : Comparison) (ref v : Nat) : Bool :=
  match c with
  | .equal tol => absDiff v ref ≤ tol
  | .atOrBelow => v ≤ ref
  | .atOrAbove => ref ≤ v

/-- The measure of a field that a SCAN tests and that matches (R156). -/
def ScanParams.matched (p : ScanParams) (r : FieldRecord) : Option Nat :=
  if p.parity.any (fun q => q ≠ r.parity) then none
  else (r.measure p.measure).filter fun v => p.comparison.holds p.reference v

/-- A SCAN's test of a field (R156). -/
def Ev.scanField (e : Ev) (l : Lane) (r : FieldRecord) (p : ScanParams) : Ev :=
  let e1 := e.modOp l fun op => { op with limitCount := op.limitCount + 1 }
  match p.matched r with
  | some v => e1.endNow l .normal none (.scanFound r.ref v)
  | none =>
    if p.limit ≤ (e1.dev.lane l).op.limitCount then e1.endNow l .abnormal (some .notFound) .nothing else e1

/-- The field header of a PROBE (R157). -/
def FieldRecord.header (r : FieldRecord) : FieldHeader where
  ref       := r.ref
  parity    := r.parity
  held      := r.held
  malformed := r.malformed
  result    := r.result
  spanCount := r.spans.length
  dsame     := r.dsame
  dadj      := r.dadj
  level     := r.level

/-- Is the end of the transfer reached at a field with this index? (R148) -/
def TransferEnd.reached (t : TransferEnd) (jobsCreated : Nat) (index : Option Nat) : Bool :=
  match t with
  | .never => false
  | .count n => jobsCreated = n
  | .atIndex e => index = some e

/-- The end of a RUNNING transfer is tested at a field (R148). -/
def Ev.testEnd (e : Ev) (l : Lane) (r : FieldRecord) : Ev :=
  let op := (e.dev.lane l).op
  match op.state with
  | .transfer .running p =>
    if p.ending.reached op.jobsCreated r.index then e.endTransfer l .normal (some .endReached) else e
  | _ => e

/-- A job is due for the field in slot `i`: it is created, or the field is treated as a drop when 32 jobs are pending
(R85, R147, R149). -/
def Ev.dueJob (e : Ev) (l : Lane) (i : SlotId) (r : FieldRecord) (p : TransferParams) : Ev :=
  let op := (e.dev.lane l).op
  if op.jobs.length < Config.maxJobs then
    match op.snapshot with
    | some snap => e.modDev fun d => d.createJob l i r snap p.filmAware
    | none => e
  else
    let e1 := e.modOp l fun op => { op.drop with pendingDiscontinuity := true }
    if p.stopOnOverrun then e1.endTransfer l .abnormal (some .overrun) else e1

/-- A RUNNING transfer judges the field in slot `i`; `isStart` says that it is the start field (R147). -/
def Ev.judgeRunning (e : Ev) (l : Lane) (i : SlotId) (r : FieldRecord) (p : TransferParams) (isStart : Bool) : Ev :=
  let past := match p.ending, r.index with
    | .atIndex last, some ix => decide (last < ix)
    | _, _ => false
  if p.stopOnGap && r.gap && !isStart then
    (e.modOp l fun op => op.noJobFor r).endTransfer l .abnormal (some .timecodeGap)
  else if past then (e.modOp l fun op => op.noJobFor r).endTransfer l .normal (some .endPassed)
  else if p.skipHeld && r.held then
    (e.modOp l fun op => (op.count Counts.addSkipped).noJobFor r).testEnd l r
  else (e.dueJob l i r p).testEnd l r

/-- Is the field the start field of an ARMED transfer? (R146) -/
def TransferStart.startsAt (s : TransferStart) (index : Option Nat) : Bool :=
  match s with
  | .immediate => true
  | .atIndex t => index.any fun ix => t ≤ ix

/-- Does the transfer start past its AT_INDEX start? (R146) -/
def TransferStart.late (s : TransferStart) (index : Option Nat) : Bool :=
  match s with
  | .immediate => false
  | .atIndex t => index.any fun ix => t < ix

/-- An ARMED transfer takes a field: its start field makes it RUNNING and is judged at once (R146). -/
def Ev.judgeArmed (e : Ev) (l : Lane) (i : SlotId) (r : FieldRecord) (p : TransferParams) : Ev :=
  if p.start.startsAt r.index then
    let e1 := e.modOp l fun op => { op with state := .transfer .running p }
    let e2 := if p.start.late r.index then e1.modOp l fun op => op.observe .startLate else e1
    e2.judgeRunning l i r p true
  else e.modOp l fun op => op.noJobFor r

/-- The running operation acts on the field in slot `i` (Table 63). -/
def Ev.operationField (e : Ev) (l : Lane) (i : SlotId) (r : FieldRecord) : Ev :=
  match (e.dev.lane l).op.state with
  | .idle => e
  | .acquiring _ => e
  | .lineTesting _ => e
  | .cueing mode target limit => e.cueField l r mode target limit
  | .scanning p => e.scanField l r p
  | .probing => e.endNow l .normal none (.probed r.header)
  | .transfer .armed p => e.judgeArmed l i r p
  | .transfer .running p => e.judgeRunning l i r p false
  | .transfer .draining _ => e

/-- The next field of the waiting job, when the field of sequence `seq` in slot `i` is taken: that field when it is the
job's n+1, else none (R88). -/
def Device.nextFor (d : Device) (l : Lane) (i : SlotId) (seq : Nat) : Option SlotId :=
  match d.waitingJob l with
  | some j => if seq = j.sequence + 1 then some i else none
  | none => none

/-- The Operation Controller's event for the field in slot `i`: the waiting job, the counts and causes every operation
gathers, then the operation itself; the chain ends (R85, R88, R131). -/
def Ev.takeField (e : Ev) (l : Lane) (i : SlotId) : Ev :=
  match e.dev.record i with
  | none => e
  | some r =>
    let e1 := e.readyWaiting l (e.dev.nextFor l i r.sequence)
    let e2 := e1.modOp l fun op =>
      let op1 := (op.count Counts.addTaken).nameField r
      if r.gap then op1.observe .timecodeGap else op1
    (e2.operationField l i r).setChain l none

/-! ## The chain's steps -/

/-- The chain's next event, whichever it is (R18, R50, R63, R85). -/
def Ev.chainStep (e : Ev) (l : Lane) : Ev :=
  match (e.dev.lane l).chain with
  | none => e
  | some ⟨.repair, i⟩ => e.repairField l i
  | some ⟨.label, i⟩ => e.judgeLabel l i
  | some ⟨.monitor, i⟩ => e.monitorField l i
  | some ⟨.controller, i⟩ => e.takeField l i

/-- The chain's event of one stage: nothing happens while no field of the lane waits for that stage. -/
def Ev.chainStage (e : Ev) (l : Lane) (stage : ChainStage) : Ev :=
  match (e.dev.lane l).chain with
  | some c => if c.stage = stage then e.chainStep l else e
  | none => e

/-- The chain of a field ends before the next field of the lane closes (R34): what is left of it is done. -/
def Ev.finishChain (e : Ev) (l : Lane) : Ev :=
  (((e.chainStep l).chainStep l).chainStep l).chainStep l

end Sys2Proof.Machine
end

