-- ==== Sys2Proof/Machine/Ingest.lean ====
section
/-! DEFINITION. The Ingest Lane's events: field-starts, lines, words, labels, the no-signal timer, enable and release
(01_ingest_lanes; 03 sections 3.5 and 3.6). -/
namespace Sys2Proof.Machine

/-- An event with lane `l`'s Ingest Lane changed by `f`. -/
def Ev.modIngest (e : Ev) (l : Lane) (f : IngestLane → IngestLane) : Ev :=
  e.modLane l fun u => { u with ingest := f u.ingest }

/-- The Ingest Lane changes its state and issues a LOCK notice with the sequence `seq` (R14). -/
def Ev.setLaneState (e : Ev) (l : Lane) (st : LaneState) (seq : Nat) : Ev :=
  (e.modIngest l fun g => { g with state := st, goodRun := 0, badRun := 0 }).note (.lock l st seq)

/-- The Ingest Lane's enable values (R3). -/
def IngestLane.enabled : IngestLane :=
  { IngestLane.reset with state := .seeking, timer := true }

/-- The Label Decoder and the Cadence Monitor take their enable or release values; a CADENCE notice carries `seq` (R30,
R84). -/
def Ev.resetLaneBlocks (e : Ev) (l : Lane) (seq : Nat) : Ev :=
  (e.modLane l fun u => { u with decoder := LabelDecoder.reset }).setMonitor l Monitor.reset seq

/-- A lane is enabled (R3, R30, R84); the LOCK notice carries `seq`. -/
def Ev.enableLane (e : Ev) (l : Lane) (seq : Nat) : Ev :=
  ((e.modIngest l fun _ => IngestLane.enabled).resetLaneBlocks l seq).note (.lock l .seeking seq)

/-! ## Closing a field -/

/-- The good-run and bad-run of a LOCKED lane at a field close; the second malformed field running takes the lane to
SEEKING, a lock loss whose report names the closed field when it was kept (R10, R14, R89). -/
def Ev.lockedClose (e : Ev) (l : Lane) (wellFormed : Bool) (kept : Option Nat) (seq : Nat) : Ev :=
  if wellFormed then
    e.modIngest l fun g => { g with badRun := 0, goodRun := satAdd 65535 g.goodRun 1 }
  else if 2 ≤ (e.dev.lane l).ingest.badRun + 1 then
    (e.setLaneState l .seeking seq).lockLoss l .seeking kept
  else e.modIngest l fun g => { g with goodRun := 0, badRun := g.badRun + 1 }

/-- The good-run of a SEEKING lane at a field close; at lock-in the lane is LOCKED, which ends an ACQUIRE (R9, R137). -/
def Ev.seekingClose (e : Ev) (l : Lane) (wellFormed : Bool) (seq : Nat) : Ev :=
  let u := e.dev.lane l
  if !wellFormed then e.modIngest l fun g => { g with goodRun := 0 }
  else if u.settings.lockIn ≤ u.ingest.goodRun + 1 then (e.setLaneState l .locked seq).acquired l
  else e.modIngest l fun g => { g with goodRun := satAdd 65535 g.goodRun 1 }

/-- A field is kept: its record, with the discontinuity mark where the last-stored sequence is not the one before, goes
with its slot to the Dropout Compensator (R13). -/
def Ev.keepField (e : Ev) (l : Lane) (i : SlotId) (f : OpenField) : Ev :=
  let last := (e.dev.lane l).ingest.lastStored
  let disc := decide (last.map (· + 1) ≠ some f.sequence)
  let e1 := e.modDev fun d => d.modRecord i fun _ => f.handOff disc
  (e1.modIngest l fun g => { g with lastStored := some f.sequence }).setChain l (some ⟨.repair, i⟩)

/-- What closing a field leaves for the event to free: the WRITING slot of a discarded or abandoned field. -/
structure ClosedField where
  ev    : Ev
  freed : List SlotId

/-- A field closes in LOCKED (R10, R11, R13, R40, R41). A dropped field holds no slot: its discontinuity is reported now.
At the top of the sequence counter (`wrap`) a field that would be kept is abandoned (R6). -/
def Ev.closeLocked (e : Ev) (l : Lane) (f : OpenField) (prev : Option Parity) (wrap : Bool) (seq : Nat) :
    ClosedField :=
  let std := (e.dev.lane l).settings.standard
  match f.slot with
  | none => ⟨(e.discontinuity l f.sequence).lockedClose l (f.wellFormed std prev) none seq, []⟩
  | some i =>
    let p := padField std i e.dev.dram f
    let e1 := e.setDram p.2
    if prev = some f.parity then ⟨(e1.discontinuity l f.sequence).lockedClose l false none seq, [i]⟩
    else if wrap then ⟨e1.lockedClose l (f.wellFormed std prev) none seq, [i]⟩
    else ⟨(e1.keepField l i p.1).lockedClose l (f.wellFormed std prev) (some f.sequence) seq, []⟩

/-- The open field of lane `l` closes, if there is one: its current line, its form, its lock consequences, and its keeping
or loss (R5, R7 to R13). Its parity becomes the previous parity (R8). `seq` is the sequence the field-start opens. -/
def Ev.closeOpenField (e : Ev) (l : Lane) (wrap : Bool) (seq : Nat) : ClosedField :=
  let u := e.dev.lane l
  match u.ingest.openField with
  | none => ⟨e, []⟩
  | some f0 =>
    let p := closeLine u.settings.standard e.dev.dram f0
    let f := p.1
    let prev := u.ingest.prevParity
    let e1 := (e.setDram p.2).modIngest l fun g =>
      { g with openField := none, prevParity := some f.parity }
    match u.ingest.state with
    | .locked => e1.closeLocked l f prev wrap seq
    | .seeking => ⟨e1.seekingClose l (f.wellFormed u.settings.standard prev) seq, []⟩
    | _ => ⟨e1, f.slot.toList⟩

/-! ## Intake -/

/-- A drop ends a RUNNING transfer that has STOP_ON_OVERRUN (R149). -/
def Ev.stopOnDrop (e : Ev) (l : Lane) : Ev :=
  match (e.dev.lane l).op.state with
  | .transfer .running p => if p.stopOnOverrun then e.endTransfer l .abnormal (some .overrun) else e
  | _ => e

/-- A drop opens an overrun episode when none is open (R39). -/
def Ev.openEpisode (e : Ev) (l : Lane) (seq : Nat) : Ev :=
  if (e.dev.lane l).overrun then e else (e.modLane l fun u => { u with overrun := true }).note (.overrun l seq)

/-- A field is dropped at intake: reported to the operation, and opening an overrun episode when none is open (R38, R39,
R149). -/
def Ev.dropField (e : Ev) (l : Lane) (seq : Nat) : Ev := ((e.modOp l Controller.drop).stopOnDrop l).openEpisode l seq

/-- The slot entry an intake makes (R37). -/
def Slot.taken (l : Lane) (seq : Nat) (parity : Parity) (held : Bool) : Slot where
  state    := .writing
  owner    := some l
  refs     := 0
  sequence := some seq
  record   := some (FieldRecord.fresh seq parity held)

/-- May lane `l` take a slot now? (R37) -/
def Device.hasRoom (d : Device) (l : Lane) : Bool :=
  d.slotsInUse l < (d.lane l).quota && (d.lane l).op.jobs.length < Config.maxJobs

/-- Lane `l` takes slot `i`, the free list's head, for its open field, which ends an overrun episode (R37, R39). -/
def Device.takeSlot (d : Device) (l : Lane) (i : SlotId) (seq : Nat) (parity : Parity) (held : Bool) : Device :=
  let d1 : Device := { d.setSlot i (Slot.taken l seq parity held) with freeList := d.freeList.tail }
  d1.modLane l fun u =>
    { u with
      overrun := false
      ingest := { u.ingest with openField := u.ingest.openField.map fun f => { f with slot := some i } } }

/-- A LOCKED lane asks for a slot for the field just opened: it takes the free list's head, or the field is dropped (R37,
R38, R39). -/
def Ev.intake (e : Ev) (l : Lane) (seq : Nat) (parity : Parity) (held : Bool) : Ev :=
  match e.dev.freeList, e.dev.hasRoom l with
  | i :: _, true => e.modDev fun d => d.takeSlot l i seq parity held
  | _, _ => e.dropField l seq

/-! ## The field-start -/

/-- A field-start at the top of the sequence counter: the window is emptied, the lane does what lane enable does, and for
the operation this is a lock loss when the lane was LOCKED (R6, R30, R46, R84, R89). `freed` is the WRITING slot of the
field that closed. -/
def Ev.reenterLane (e : Ev) (l : Lane) (freed : List SlotId) : Ev :=
  let u := e.dev.lane l
  let e0 := (e.modLane l fun u => { u with window := [], overrun := false }).modDev fun d => d.giveBack u.window freed
  let e1 := e0.enableLane l 1
  if u.ingest.state = .locked then e1.lockLoss l .seeking none else e1

/-- The field-start is reported to the Operation Controller: in ACQUIRING one that leaves the lane SEEKING adds to the
seeking count, and the lock limit ends the operation (R5, R138). -/
def Ev.reportFieldStart (e : Ev) (l : Lane) : Ev :=
  let u := e.dev.lane l
  match u.op.state, u.ingest.state with
  | .acquiring _, .seeking =>
    let e1 := e.modOp l fun op => { op with seekingCount := op.seekingCount + 1 }
    if u.settings.lockLimit ≤ u.op.seekingCount + 1 then e1.endNow l .abnormal (some .lockFailed) .nothing else e1
  | _, _ => e

/-- The new field is opened, reported, given a slot when the lane is LOCKED, and the no-signal timer restarts (R5). -/
def Ev.openNewField (e : Ev) (l : Lane) (seq : Nat) (parity : Parity) (held : Bool) : Ev :=
  let e1 := e.modIngest l fun g =>
    { g with sequence := seq, openField := some (OpenField.start seq parity held), timer := true }
  let e2 := e1.reportFieldStart l
  if (e2.dev.lane l).ingest.state = .locked then e2.intake l seq parity held else e2

/-- The field-start of an enabled lane, in the order of R5 and R6, after the chain of the field before has ended (R34). -/
def Ev.fieldStartEnabled (e : Ev) (l : Lane) (parity : Parity) (held : Bool) : Ev :=
  let e0 := e.finishChain l
  let top := decide ((e0.dev.lane l).ingest.sequence = Config.max32)
  let seq := if top then 1 else (e0.dev.lane l).ingest.sequence + 1
  let c := e0.closeOpenField l top seq
  let e1 :=
    if top then c.ev.reenterLane l c.freed
    else
      let e2 := c.ev.modDev fun d => d.giveBack [] c.freed
      if (e2.dev.lane l).ingest.state = .noSignal then e2.setLaneState l .seeking seq else e2
  e1.openNewField l seq parity held

/-- What a LINE TEST notes at a field-start, a pulse that shows the input high and low (R158, log entry 10). -/
def LineWatch.fieldStart (w : LineWatch) (parity : Parity) : LineWatch :=
  { w with
    highSeen := true
    lowSeen := true
    fieldStarts := w.fieldStarts + 1
    parity0Seen := w.parity0Seen || decide (parity = 0)
    parity1Seen := w.parity1Seen || decide (parity = 1) }

/-- A running LINE TEST notes a signal of the decoder (R158). -/
def Ev.watch (e : Ev) (l : Lane) (f : LineWatch → LineWatch) : Ev :=
  e.modOp l fun op =>
    match op.state with
    | .lineTesting w => { op with state := .lineTesting (f w) }
    | _ => op

/-- A field-start: an OFF lane ignores it, but for a LINE TEST (R1, R5, R158). -/
def Ev.fieldStart (e : Ev) (l : Lane) (parity : Parity) (held : Bool) : Ev :=
  if (e.dev.lane l).ingest.state = .off then e.watch l fun w => w.fieldStart parity
  else e.fieldStartEnabled l parity held

/-! ## Lines, words, labels -/

/-- The open field of lane `l`, if there is one, changes with the DRAM (R7). -/
def Ev.withOpenField (e : Ev) (l : Lane) (f : Standard → Dram → OpenField → OpenField × Dram) : Ev :=
  let u := e.dev.lane l
  match u.ingest.openField with
  | none => e
  | some o =>
    let p := f u.settings.standard e.dev.dram o
    (e.setDram p.2).modIngest l fun g => { g with openField := some p.1 }

/-- A line-start: the current line closes and the next opens (R7). -/
def Ev.lineStart (e : Ev) (l : Lane) : Ev :=
  if (e.dev.lane l).ingest.state = .off then e
  else
    e.withOpenField l fun std m o =>
      let p := closeLine std m o
      (openLine std p.1, p.2)

/-- A sample word; with sample-valid low it is no word (R1, R7). A LINE TEST notes it on an OFF lane (R158). -/
def Ev.sampleWord (e : Ev) (l : Lane) (v : Sample) (sampleValid dropout : Bool) : Ev :=
  if !sampleValid then e
  else if (e.dev.lane l).ingest.state = .off then e.watch l fun w => { w with sampleSeen := true }
  else e.withOpenField l fun std m o => takeWord std m o v dropout

/-- A label word: the last one presented for the open field is kept (R1). -/
def Ev.labelWord (e : Ev) (l : Lane) (w : LabelWord) : Ev :=
  if (e.dev.lane l).ingest.state = .off then e
  else e.withOpenField l fun _ m o => ({ o with label := w }, m)

/-! ## The no-signal timer and release -/

/-- The WRITING slot of the lane's open field, if it holds one (R41). -/
def LaneUnit.openSlot (u : LaneUnit) : List SlotId :=
  match u.ingest.openField with
  | some f => f.slot.toList
  | none => []

/-- The WRITING slot of the field in the lane's chain: one that has not joined the window yet (R32, R41). -/
def LaneUnit.chainSlot (u : LaneUnit) : List SlotId :=
  match u.chain with
  | some ⟨.repair, i⟩ => [i]
  | some ⟨.label, i⟩ => [i]
  | _ => []

/-- The lane enters NO_SIGNAL: its open field is abandoned, a LOCK notice is issued, the running operation observes
NO_SIGNAL, and from LOCKED it is a lock loss (R12, R14, R89, R139, R143, R144). -/
def Ev.loseSignal (e : Ev) (l : Lane) : Ev :=
  let u := e.dev.lane l
  let e1 := e.modDev fun d => d.giveBack [] u.openSlot
  let e2 := (e1.modIngest l fun g => { g with openField := none, prevParity := none, timer := false }).setLaneState l
    .noSignal u.ingest.sequence
  let e3 := e2.modOp l fun op => op.observe .noSignal
  if u.ingest.state = .locked then e3.lockLoss l .noSignal none else e3

/-- The no-signal timer expires, in SEEKING or LOCKED, while it runs (R12). -/
def Ev.timerExpiry (e : Ev) (l : Lane) : Ev :=
  let g := (e.dev.lane l).ingest
  if g.timer && (g.state = .seeking || g.state = .locked) then e.loseSignal l else e

/-- RELEASE of lane `l` (R141): the operation ends ABORTED; jobs, window, open field and chain give back what they hold in
one batch (R46); the Ingest Lane is OFF, with a LOCK notice when it was enabled (R4); the Label Decoder and the Cadence
Monitor take their release values (R30, R84). The Output Channel stays as it is (R128). -/
def Ev.releaseLane (e : Ev) (l : Lane) : Ev :=
  let e1 := e.abort l
  let u := e1.dev.lane l
  let e2 := e1.modDev fun d => d.discardJobs l u.window (u.openSlot ++ u.chainSlot)
  let e3 := (e2.modLane l fun u =>
    { u with window := [], overrun := false, chain := none, ingest := IngestLane.reset }).resetLaneBlocks l 0
  if u.ingest.state = .off then e3 else e3.note (.lock l .off 0)

end Sys2Proof.Machine
end

