-- ==== Sys2Proof/Machine/Flags.lean ====
section
/-! DEFINITION. The one-byte codes and the flag bytes of the messages (10_configuration, sections 10.4 to 10.7). -/
namespace Sys2Proof.Machine

/-! ## Numbers -/

/-- One byte. -/
def u8 (n : Nat) : List Byte := [BitVec.ofNat 8 n]
/-- Two bytes, most significant first (R189). -/
def u16 (n : Nat) : List Byte := [BitVec.ofNat 8 (n / 256), BitVec.ofNat 8 n]
/-- Four bytes, most significant first (R189). -/
def u32 (n : Nat) : List Byte := u16 (n / 65536) ++ u16 n

/-- A bit as its weight in a flag byte. -/
def bitAt (k : Nat) (b : Bool) : Nat := if b then 2 ^ k else 0

/-! ## Value codes (Table 77) -/

/-- Lane state. -/
def LaneState.code : LaneState → Nat
  | .off => 0 | .noSignal => 1 | .seeking => 2 | .locked => 3
/-- Standard. -/
def Standard.code : Standard → Nat
  | .s625 => 0 | .s525 => 1
/-- Timecode mode. -/
def TcMode.code : TcMode → Nat
  | .none => 0 | .nonDrop => 1 | .drop => 2 | .follow => 3
/-- Repair method. -/
def RepairMethod.code : RepairMethod → Nat
  | .off => 0 | .temporalFirst => 1 | .spatialFirst => 2
/-- Access level. -/
def Access.code : Access → Nat
  | .operator => 0 | .engineering => 1
/-- Tracker state. -/
def Tracker.code : Tracker → Nat
  | .video => 0 | .film22 => 1 | .film32 => 2
/-- Operation. -/
def OpKind.code : OpKind → Nat
  | .idle => 0 | .acquire => 1 | .cue => 2 | .transfer => 3 | .scan => 4 | .probe => 5 | .lineTest => 6
/-- Transfer sub-state; none outside a transfer. -/
def OpState.subCode : OpState → Nat
  | .transfer .armed _ => 1
  | .transfer .running _ => 2
  | .transfer .draining _ => 3
  | _ => 0
/-- End class. -/
def EndClass.code : EndClass → Nat
  | .normal => 0 | .abnormal => 1 | .sourceChange => 2 | .aborted => 3
/-- Cause. -/
def Cause.code : Cause → Nat
  | .endReached => 1 | .endPassed => 2 | .startLate => 3 | .targetPassed => 4 | .notFound => 5 | .lockFailed => 6
  | .noSignal => 7 | .overrun => 8 | .timecodeGap => 9 | .windowClamped => 10 | .amended => 11
/-- The ending cause's code, 00h for none. -/
def causeCode : Option Cause → Nat
  | some c => c.code
  | none => 0
/-- The causes in code order. -/
def allCauses : List Cause :=
  [.endReached, .endPassed, .startLate, .targetPassed, .notFound, .lockFailed, .noSignal, .overrun, .timecodeGap,
    .windowClamped, .amended]
/-- The cause set: bit c-1 for each cause of code c (R190). -/
def causeBits (cs : List Cause) : Nat := (allCauses.map fun c => bitAt (c.code - 1) (c ∈ cs)).sum
/-- Reply outcome. -/
def ReplyOutcome.code : ReplyOutcome → Nat
  | .done => 0 | .started => 1 | .refused _ => 2
/-- Refusal code. -/
def RefusalCode.code : RefusalCode → Nat
  | .unknownKind => 1 | .length => 2 | .range => 3 | .busy => 4 | .notLocked => 5 | .laneOff => 6 | .privilege => 7
  | .tooLate => 8 | .notRunning => 9 | .inUse => 10 | .incomplete => 11 | .notOpen => 12
/-- The refusal code of an outcome, 00h unless it is REFUSED. -/
def ReplyOutcome.refusal : ReplyOutcome → Nat
  | .refused c => c.code
  | _ => 0
/-- Label result. -/
def LabelResult.code : LabelResult → Nat
  | .valid => 0 | .absent => 1 | .illegalDigit _ => 2 | .range _ => 3 | .dropLabel => 4
/-- Label detail. -/
def LabelResult.detail : LabelResult → Nat
  | .illegalDigit p => p
  | .range .hours => 0
  | .range .minutes => 1
  | .range .seconds => 2
  | .range .frames => 3
  | _ => 0
/-- Counting. -/
def Counting.code : Counting → Nat
  | .none => 0 | .s625 => 1 | .nonDrop => 2 | .dropFrame => 3
/-- Origin of a field that is named. -/
def Origin.code : Origin → Nat
  | .read => 1 | .flywheel => 2 | .absent => 3
/-- Render mode. -/
def RenderMode.code : RenderMode → Nat
  | .adaptive => 0 | .weavePrev => 1 | .weaveNext => 2
/-- Flag a or flag r, FFh when absent. -/
def flagCode : Option Bool → Nat
  | some true => 1
  | some false => 0
  | none => 255
/-- A position, FFh for none. -/
def positionCode : Option Nat → Nat
  | some p => p
  | none => 255
/-- A measure, FFFFh when absent (R190). -/
def measureCode : Option Nat → Nat
  | some v => v
  | none => 65535
/-- Span kind. -/
def SpanKind.code : SpanKind → Nat
  | .run => 0 | .line => 1 | .rest => 2
/-- Span outcome. -/
def SpanOutcome.code : SpanOutcome → Nat
  | .notAttempted => 0 | .substituted => 1 | .interpolated => 2 | .unrepaired => 3
/-- Send state. -/
def SendState.code : SendState → Nat
  | .idle => 0 | .sending _ => 1 | .paused _ => 2

/-! ## Flag bytes -/

/-- The LINK byte (R189). -/
def LinkFlags.byte (f : LinkFlags) : Nat :=
  bitAt 0 f.truncated + bitAt 1 f.format + bitAt 2 f.checkFailed + bitAt 3 f.overrun + bitAt 4 f.noticesLost

/-- The notice mask byte (Table 74). -/
def NoticeMask.byte (m : NoticeMask) : Nat := bitAt 0 m.lock + bitAt 1 m.cadence + bitAt 2 m.overrun

/-- The lane flags byte of STATUS (Table 74); `jobRunning` says that a job of the lane runs. -/
def LaneUnit.flagByte (u : LaneUnit) (jobRunning : Bool) : Nat :=
  bitAt 0 u.overrun + bitAt 1 jobRunning + bitAt 2 u.op.held.isSome + bitAt 3 u.op.lastTag.isSome +
    bitAt 4 (u.op.lastTag.any fun t => t.completed) + bitAt 5 u.channel.ready

/-- The field flags byte of a field record (Table 83). -/
def FieldRecord.flagByte (r : FieldRecord) : Nat :=
  r.parity.val + bitAt 1 r.held + bitAt 2 r.malformed + bitAt 3 r.discontinuity + bitAt 4 r.gap +
    bitAt 5 r.fullyMeasured + bitAt 6 r.measured

/-- The flags byte of a frame label (Table 85). -/
def LabelItems.flagByte (i : LabelItems) : Nat :=
  bitAt 0 i.held + bitAt 1 i.discontinuity + bitAt 2 i.untrusted + bitAt 3 i.windowClamped

end Sys2Proof.Machine
end

