-- ==== Sys2Proof/Machine/Reconstruct.lean ====
section
/-! DEFINITION. Reconstruction: the neighbours, the mix factor, the blend and the weave (06 sections 6.6 to 6.9). -/
namespace Sys2Proof.Machine

/-! ## One sample -/

/-- The spatial candidate S, and in the same form the temporal candidate T: (a + b + 1) >> 1 (R102). -/
def midpoint (a b : Nat) : Nat := (a + b + 1) / 2

/-- The motion measure M; `second` holds A, A2, B, B2 when A2 and B2 are present (R103). -/
def motion (p q : Nat) (second : Option (Nat × Nat × Nat × Nat)) : Nat :=
  match second with
  | some (a, a2, b, b2) => max (absDiff p q) ((absDiff a a2 + absDiff b b2 + 1) / 2)
  | none => absDiff p q

/-- The mix factor from the motion measure, in 1/32768 (R104). -/
def mixFactor (m mlow gain : Nat) : Nat := min 32767 ((m - mlow) * gain)

/-- The output sample from S, T and the mix factor; the arithmetic is on integers and the division rounds down (R105). -/
def blend (k s t : Nat) : Nat := ((t : Int) + ((k : Int) * ((s : Int) - (t : Int)) + 16384) / 32768).toNat

/-! ## The fields a job reads -/

/-- A field as a job reads it: its parity, its words by field line and word position, and its dropout list. -/
structure FieldView where
  parity : Parity
  word   : Nat → Nat → Nat
  spans  : List Span

/-- The view of the field in slot `i`. -/
def Device.view (d : Device) (i : SlotId) : Option FieldView :=
  (d.record i).map fun r => ⟨r.parity, fun line w => (d.dram.read (fieldAddr i line w)).toNat, r.spans⟩

/-- The luma position that decides a word's mix factor and trust: its own for luma, 2q for pair q (R106, R107). -/
def decidingPosition (w : Nat) : Nat := if w % 2 = 1 then w / 2 else 2 * (w / 4)

/-- What a job builds a frame from: the frame height, field n, and the neighbours it lists (R100, R101). -/
structure RenderInput where
  frame : Nat
  self  : FieldView
  prev  : Option FieldView
  next  : Option FieldView
  prev2 : Option FieldView
  mlow  : Nat
  gain  : Nat

/-- A of word `w` on missing line `y`: field n's frame line above, at the top edge the one below (Table 42). -/
def FieldView.above (f : FieldView) (y w : Nat) : Nat := f.word (lineAbove y / 2) w

/-- B of word `w` on missing line `y`: field n's frame line below, at the bottom edge the one above (Table 42). -/
def FieldView.below (f : FieldView) (frame y w : Nat) : Nat := f.word (lineBelow frame y / 2) w

/-- The spatial candidate of word `w` on missing line `y` (R102, R106). -/
def RenderInput.spatial (r : RenderInput) (y w : Nat) : Nat := midpoint (r.self.above y w) (r.self.below r.frame y w)

/-- Field n-2 where A2 and B2 are present: listed, with field n's parity (R101). -/
def RenderInput.sameParity (r : RenderInput) : Option FieldView :=
  r.prev2.filter fun f => f.parity = r.self.parity

/-- The motion measure at luma position `x` of missing line `y` (R103). -/
def RenderInput.motionAt (r : RenderInput) (p q : FieldView) (y x : Nat) : Nat :=
  let w := 2 * x + 1
  motion (p.word (y / 2) w) (q.word (y / 2) w) <|
    r.sameParity.map fun f => (r.self.above y w, f.above y w, r.self.below r.frame y w, f.below r.frame y w)

/-- The mix factor at luma position `x` of missing line `y`, both neighbours listed: forced where either is untrusted
there (R104). -/
def RenderInput.mixAt (r : RenderInput) (p q : FieldView) (y x : Nat) : Nat :=
  if untrustedAt p.spans (y / 2) x || untrustedAt q.spans (y / 2) x then 32767
  else mixFactor (r.motionAt p q y x) r.mlow r.gain

/-- Word `w` of missing line `y` under ADAPTIVE (R101 to R106). -/
def RenderInput.adaptiveWord (r : RenderInput) (y w : Nat) : Nat :=
  match r.prev, r.next with
  | some p, some q =>
    blend (r.mixAt p q y (decidingPosition w)) (r.spatial y w) (midpoint (p.word (y / 2) w) (q.word (y / 2) w))
  | _, _ => r.spatial y w

/-- Word `w` of missing line `y` woven from a partner: its own line, or S where it is untrusted (R107). -/
def RenderInput.weaveWord (r : RenderInput) (partner : FieldView) (y w : Nat) : Nat :=
  if untrustedAt partner.spans (y / 2) (decidingPosition w) then r.spatial y w else partner.word (y / 2) w

/-- Word `w` of frame line `y` of the reconstructed frame (R100). -/
def RenderInput.frameWord (r : RenderInput) (mode : RenderMode) (y w : Nat) : Nat :=
  if y % 2 = r.self.parity.val then r.self.word (y / 2) w
  else
    match mode, r.prev, r.next with
    | .weavePrev, some p, _ => r.weaveWord p y w
    | .weaveNext, _, some q => r.weaveWord q y w
    | _, _, _ => r.adaptiveWord y w

/-- What the running job reads, from the slots it lists (R95, R100). -/
def Device.renderInput (d : Device) (j : Job) : Option RenderInput :=
  (j.fieldSelf.bind d.view).map fun self =>
    { frame := (d.lane j.lane).settings.standard.frameLines
      self := self
      prev := j.fieldPrev.bind d.view
      next := j.fieldNext.bind d.view
      prev2 := j.fieldPrev2.bind d.view
      mlow := j.snapshot.profile.mlow
      gain := j.snapshot.profile.gain }

end Sys2Proof.Machine
end

