-- ==== Sys2Proof/Machine/Scaler.lean ====
section
/-! DEFINITION. The snapshot with its window fit and steps, and the polyphase scaler (07 sections 7.2 and 7.4). -/
namespace Sys2Proof.Machine

/-! ## Snapshot -/

/-- The step and offset of an axis with source size `src` and destination size `dst` (R116). -/
def scaleStep (src dst : Nat) : ScaleStep :=
  let step : Int := ((src * 65536 / dst : Nat) : Int)
  ⟨step, (step - 65536) / 2⟩

/-- The profile with its window fitted to a frame of `frame` lines (R111). -/
def Profile.fit (p : Profile) (frame : Nat) : Profile :=
  let y0 := min p.y0 (frame - 16)
  { p with y0 := y0, hs := min p.hs (frame - y0) }

/-- The snapshot of a profile for a lane of the standard (R110, R111, R116). -/
def takeSnapshot (std : Standard) (p : Profile) : Snapshot :=
  let q := p.fit std.frameLines
  { profile := q
    windowClamped := decide (q.y0 ≠ p.y0) || decide (q.hs ≠ p.hs)
    lumaH := scaleStep q.ws q.wd
    chromaH := scaleStep (q.ws / 2) (q.wd / 2)
    vertical := scaleStep q.hs q.hd }

/-! ## Positions -/

/-- The position of destination index `j` (R117). -/
def ScaleStep.position (s : ScaleStep) (j : Nat) : Int := (j : Int) * s.step + s.offset

/-- Its integer part (R117). -/
def ScaleStep.intPart (s : ScaleStep) (j : Nat) : Int := s.position j / 65536

/-- Its fraction (R117). -/
def ScaleStep.frac (s : ScaleStep) (j : Nat) : Nat := (s.position j % 65536).toNat

/-- Its phase (R117). -/
def ScaleStep.phase (s : ScaleStep) (j : Nat) : Fin 32 := Fin.ofNat 32 (s.frac j / 2048)

/-- An index into a window of `size` samples or lines, its edge repeated outside (R117). -/
def clampIndex (size : Nat) (i : Int) : Nat := min i.toNat (size - 1)

/-- A filter sum rounded and clamped into a sample (R118, R119). -/
def saturate (sum : Int) : Nat := min ((sum + 8192) / 16384).toNat 1023

/-- One output of the horizontal pass from the window samples `src` (R118). -/
def horizontalTap (f : FilterSet) (s : ScaleStep) (size : Nat) (src : Nat → Nat) (j : Nat) : Nat :=
  saturate <| ((List.finRange 6).map fun t =>
    (f.h[s.phase j])[t] * (src (clampIndex size (s.intPart j - 2 + (t.val : Int))) : Int)).sum

/-- One output of the vertical pass from the samples `src` of the intermediate lines at its position (R119). -/
def verticalTap (f : FilterSet) (s : ScaleStep) (size : Nat) (src : Nat → Nat) (j : Nat) : Nat :=
  saturate <| ((List.finRange 4).map fun t =>
    (f.v[s.phase j])[t] * (src (clampIndex size (s.intPart j - 1 + (t.val : Int))) : Int)).sum

/-! ## The raster -/

/-- Luma of the intermediate line of window line `k`, output `j`, from the reconstructed frame's words (R118). -/
def lumaInter (f : FilterSet) (s : Snapshot) (frame : Nat → Nat → Nat) (k j : Nat) : Nat :=
  let p := s.profile
  horizontalTap f s.lumaH p.ws (fun w => frame (p.y0 + k) (2 * (p.x0 + w) + 1)) j

/-- Chroma component `c` (0 for Cb, 2 for Cr) of the intermediate line of window line `k`, output pair `j` (R118). -/
def chromaInter (f : FilterSet) (s : Snapshot) (frame : Nat → Nat → Nat) (c k j : Nat) : Nat :=
  let p := s.profile
  horizontalTap f s.chromaH (p.ws / 2) (fun w => frame (p.y0 + k) (4 * (p.x0 / 2 + w) + c)) j

/-- Is raster line `y` inside the destination rectangle? (R120) -/
def Profile.lineInside (p : Profile) (y : Nat) : Bool := p.yd ≤ y && y < p.yd + p.hd

/-- The luma sample of raster line `y`, position `x` (R119, R120). -/
def rasterLuma (f : FilterSet) (s : Snapshot) (frame : Nat → Nat → Nat) (y x : Nat) : Nat :=
  let p := s.profile
  if p.lineInside y && p.xd ≤ x && x < p.xd + p.wd then
    verticalTap f s.vertical p.hs (fun k => lumaInter f s frame k (x - p.xd)) (y - p.yd)
  else p.borderY

/-- Chroma component `c` (0 for Cb, 2 for Cr) of raster line `y`, pair `q` (R119, R120). -/
def rasterChroma (f : FilterSet) (s : Snapshot) (frame : Nat → Nat → Nat) (c y q : Nat) : Nat :=
  let p := s.profile
  if p.lineInside y && p.xd / 2 ≤ q && q < (p.xd + p.wd) / 2 then
    verticalTap f s.vertical p.hs (fun k => chromaInter f s frame c k (q - p.xd / 2)) (y - p.yd)
  else if c = 0 then p.borderCb else p.borderCr

/-- Word `w` of raster line `y`, in the order Cb, Y, Cr, Y (R2, R120). -/
def rasterWord (f : FilterSet) (s : Snapshot) (frame : Nat → Nat → Nat) (y w : Nat) : Sample :=
  BitVec.ofNat 10 (if w % 2 = 1 then rasterLuma f s frame y (w / 2) else rasterChroma f s frame (w % 4) y (w / 4))

/-- The finished frame as its buffer holds it: 1080 lines of 3840 words (R120). -/
def rasterFrame (f : FilterSet) (s : Snapshot) (frame : Nat → Nat → Nat) : List Sample :=
  (List.range Config.rasterLines).flatMap fun y => (List.range Config.rasterWords).map fun w => rasterWord f s frame y w

end Sys2Proof.Machine
end

