-- ==== Sys2Proof/Machine/Output.lean ====
section
/-! DEFINITION. The Render Engine's arbiter and job completion, and the Output Channels (06 sections 6.4 and 6.5,
07 section 7.5). -/
namespace Sys2Proof.Machine

/-- An event with lane `l`'s Output Channel changed by `f`. -/
def Ev.modChannel (e : Ev) (l : Lane) (f : Channel → Channel) : Ev :=
  e.modLane l fun u => { u with channel := f u.channel }

/-! ## The arbiter -/

/-- The frame buffer a grant lends: 2L when it is free, else 2L+1 when that is free (R94). -/
def Channel.freeBuffer (c : Channel) : Option (Fin 2) :=
  if c.buffers[(0 : Fin 2)] = .free then some 0 else if c.buffers[(1 : Fin 2)] = .free then some 1 else none

/-- Is the lane eligible: its queue's head READY and a frame buffer free? (R91) -/
def LaneUnit.eligible (u : LaneUnit) : Bool :=
  (u.op.jobs.head?.any fun j => j.state = .ready) && u.channel.freeBuffer.isSome

/-- The cyclic search order after the grant pointer (R93). -/
def searchOrder (pointer : Lane) : List Lane := [pointer + 1, pointer + 2, pointer + 3, pointer]

/-- The highest service level among the eligible lanes (R93). -/
def Device.topLevel (d : Device) : Nat :=
  (((List.finRange 4).filter fun l => (d.lane l).eligible).map fun l => (d.lane l).settings.serviceLevel).foldl max 0

/-- The winner of a grant: among the eligible lanes of the highest service level, the first after the pointer (R93). -/
def Device.grantWinner (d : Device) : Option Lane :=
  (searchOrder d.engine.pointer).find? fun l =>
    (d.lane l).eligible && decide ((d.lane l).settings.serviceLevel = d.topLevel)

/-- A grant to lane `l`: the head job leaves the queue with a free buffer lent, runs, and the pointer is the winner's
(R93, R94). -/
def Device.grantTo (d : Device) (l : Lane) : Device :=
  match (d.lane l).op.jobs, (d.lane l).channel.freeBuffer with
  | j :: rest, some b =>
    { d.modLane l fun u => { u with op := { u.op with jobs := rest }, channel := u.channel.setBuffer b .lent } with
      engine := { running := some { j with state := .running, buffer := some b }, pointer := l } }
  | _, _ => d

/-- A grant is made when no job runs and a lane is eligible (R93). -/
def Ev.grant (e : Ev) : Ev :=
  match e.dev.engine.running, e.dev.grantWinner with
  | none, some l => e.modDev fun d => d.grantTo l
  | _, _ => e

/-! ## Job completion -/

/-- The filter set a snapshot names (R110). -/
def Device.filterOf (d : Device) (s : Snapshot) : FilterSet := d.handler.filters[Fin.ofNat 4 s.profile.filterSet]

/-- The words the running job writes into its buffer (R95, R100, R120). -/
def Device.renderJob (d : Device) (j : Job) : List Sample :=
  match d.renderInput j with
  | some r => rasterFrame (d.filterOf j.snapshot) j.snapshot (r.frameWord (j.items.mode.getD .adaptive))
  | none => []

/-- The frame of a finished job (R96, R126). -/
def Job.frame (j : Job) (b : Fin 2) : Frame := ⟨b, j.lane, j.tag, j.transferId, j.items⟩

/-- The running job completes: its buffer holds the frame and joins the tail of the frame queue, and it gives back every
reference it holds (R96). -/
def Device.completeJob (d : Device) (j : Job) (b : Fin 2) : Device :=
  let m := d.dram.writeRun (bufferAddr j.lane b 0 0) (d.renderJob j)
  let d1 := d.modLane j.lane fun u =>
    { u with channel := { u.channel.setBuffer b .queued with queue := u.channel.queue ++ [j.frame b] } }
  ({ d1 with dram := m, engine := { d1.engine with running := none } } : Device).giveBack j.slots []

/-- A job completion, when a job runs (R96). -/
def Ev.jobCompletion (e : Ev) : Ev :=
  match e.dev.engine.running with
  | some j =>
    match j.buffer with
    | some b => e.modDev fun d => d.completeJob j b
    | none => e
  | none => e

/-! ## Sends -/

/-- A send starts when the channel is IDLE with a frame queued and ready high (R123). -/
def Channel.startSend (c : Channel) : Channel :=
  match c.send, c.queue, c.ready with
  | .idle, f :: _, true => { c.setBuffer f.buffer .sending with send := .sending 0 }
  | _, _, _ => c

/-- The end of a line other than the last: the next line begins, or the send pauses when ready is low (R124). -/
def Channel.endLine (c : Channel) : Channel :=
  match c.send with
  | .sending n =>
    if n < Config.rasterLines then { c with send := if c.ready then .sending (n + 1) else .paused (n + 1) } else c
  | _ => c

/-- Ready rises: a paused send goes on (R124). -/
def Channel.readyRise (c : Channel) : Channel :=
  match c.send with
  | .paused n => { c with ready := true, send := .sending n }
  | _ => { c with ready := true }

/-- Ready falls; the channel reads it at the end of its line (R124). -/
def Channel.readyFall (c : Channel) : Channel := { c with ready := false }

/-- The frame whose send completes at the end of line 1080, if the channel is there (R125). -/
def Channel.finishing (c : Channel) : Option Frame :=
  match c.send, c.queue with
  | .sending 1080, f :: _ => some f
  | _, _ => none

/-- The send of the head frame completes: it leaves the queue, its buffer is FREE and the channel IDLE (R125). -/
def Channel.finishSend (c : Channel) (f : Frame) : Channel :=
  { c.setBuffer f.buffer .free with queue := c.queue.tail, send := .idle }

/-- A send completion is reported: the frame counts for the transfer that made it, while that transfer runs (R125,
R151). -/
def Controller.frameSent (op : Controller) (f : Frame) : Controller :=
  match op.state with
  | .transfer _ _ => if f.transferId = op.transferId then op.count Counts.addSent else op
  | _ => op

/-- A send completion, when line 1080 of a send is under way; a DRAINING transfer may complete (R125, R151, R152). -/
def Ev.sendCompletion (e : Ev) (l : Lane) : Ev :=
  match (e.dev.lane l).channel.finishing with
  | some f => ((e.modChannel l fun c => c.finishSend f).modOp l fun op => op.frameSent f).settle l
  | none => e

end Sys2Proof.Machine
end

