-- ==== Sys2Proof/Machine/Wire.lean ====
section
/-! DEFINITION. The bytes of the outbound records and of the frame label (10_configuration, sections 10.4 to 10.7). -/
namespace Sys2Proof.Machine

/-! ## Parts -/

/-- A field reference of 9 bytes (R190). -/
def encodeRef : Option FieldRef → List Byte
  | some r => u8 r.origin.code ++ u32 r.sequence ++ u32 (r.index.getD 0)
  | none => u8 0 ++ u32 0 ++ u32 0

/-- A label word: four bytes of nibbles, then the label bits (R190). -/
def encodeLabel (w : LabelWord) : List Byte :=
  u8 (16 * w.digit 0 + w.digit 1) ++ u8 (16 * w.digit 2 + w.digit 3) ++ u8 (16 * w.digit 4 + w.digit 5) ++
    u8 (16 * w.digit 6 + w.digit 7) ++ u8 (bitAt 0 w.valid + bitAt 1 w.dropFrame)

/-- A span entry of 6 bytes (Table 84). -/
def encodeSpan (s : Span) : List Byte :=
  u16 s.line ++ u16 (s.kind.code * 16384 + s.outcome.code * 4096 + s.first) ++ u16 s.last

/-- The field record that INSPECT FIELD returns (R195, Table 83). -/
def encodeFieldRecord (l : Lane) (position : Nat) (i : SlotId) (r : FieldRecord) : List Byte :=
  u8 1 ++ u8 l.val ++ u8 position ++ u8 i.val ++ u32 r.sequence ++ u8 r.flagByte ++ encodeLabel r.label ++
    u8 r.result.code ++ u8 r.result.detail ++ u8 r.counting.code ++ u8 r.origin.code ++ u32 (r.index.getD 0) ++
    u16 (measureCode r.dsame) ++ u16 (measureCode r.dadj) ++ u16 (measureCode r.level) ++ u8 (flagCode r.flagA) ++
    u8 (flagCode r.flagR) ++ u8 r.tracker.code ++ u8 (positionCode r.position) ++ u8 r.substituted ++
    u8 r.interpolated ++ u8 r.unrepaired ++ u8 r.spans.length ++ r.spans.flatMap encodeSpan

/-- The field header of a PROBE (Table 82): the label result stands only where the field has no index. -/
def encodeHeader (h : FieldHeader) : List Byte :=
  encodeRef (some h.ref) ++ u8 (h.parity.val + bitAt 1 h.held + bitAt 2 h.malformed) ++
    (if h.ref.index.isSome then u8 255 ++ u8 0 else u8 h.result.code ++ u8 h.result.detail) ++ u8 h.spanCount ++
    u16 (measureCode h.dsame) ++ u16 (measureCode h.dadj) ++ u16 (measureCode h.level)

/-- The operation-specific part (Table 82). -/
def encodePart : OpPart → List Byte
  | .nothing => []
  | .scanFound f v => encodeRef (some f) ++ u16 v
  | .probed h => encodeHeader h
  | .lineCode c => u8 c

/-- The completion record (R194, Table 81). -/
def encodeCompletion (c : Completion) : List Byte :=
  u8 c.lane.val ++ u8 c.op.code ++ [c.tag] ++ u8 c.cls.code ++ u8 (causeCode c.cause) ++ u16 (causeBits c.causes) ++
    u32 c.counts.fieldsTaken ++ u32 c.counts.framesSent ++ u32 c.counts.heldSkipped ++ u32 c.counts.fieldsDropped ++
    u32 c.counts.substituted ++ u32 c.counts.interpolated ++ u32 c.counts.unrepaired ++
    u32 c.counts.timecodeErrors ++ encodeRef c.first ++ encodeRef c.last ++
    u8 (encodePart c.part).length ++ encodePart c.part

/-! ## Records -/

/-- The KIND of a record (Table 86). -/
def Message.kind : Message → Nat
  | .ready => 0x90
  | .notice (.lock _ _ _) => 0x91
  | .notice (.cadence _ _ _ _) => 0x92
  | .notice (.overrun _ _) => 0x93
  | .notice (.completion _) => 0x94
  | .reply _ => 0x80

/-- The TAG of a record (R168, R177). -/
def Message.tag : Message → Byte
  | .notice (.completion c) => c.tag
  | .reply r => r.tag
  | _ => 0

/-- The body of a record after its LINK byte (R192, R193). -/
def Message.body : Message → List Byte
  | .ready => u8 Config.designRevision
  | .notice (.lock l st seq) => u8 l.val ++ u8 st.code ++ u32 seq
  | .notice (.cadence l st pos seq) => u8 l.val ++ u8 st.code ++ u8 (positionCode pos) ++ u32 seq
  | .notice (.overrun l seq) => u8 l.val ++ u32 seq
  | .notice (.completion c) => encodeCompletion c
  | .reply r => [r.kind] ++ u8 r.outcome.code ++ u8 r.outcome.refusal ++ u8 (bitAt 0 r.clamped) ++ r.data

/-- The sum of bytes modulo 256 (R161). -/
def byteSum (bs : List Byte) : Byte := bs.foldl (· + ·) 0

/-- The CHECK byte that brings a sum to 0 modulo 256 (R161). -/
def checkByte (bs : List Byte) : Byte := 0 - byteSum bs

/-- The bytes of a record from LENGTH through its last body byte (R161). -/
def Record.counted (r : Record) : List Byte :=
  u8 (3 + r.message.body.length) ++ u8 r.message.kind ++ [r.message.tag] ++ u8 (r.link.getD LinkFlags.empty).byte ++
    r.message.body

/-- The bytes of an outbound record, START to CHECK (R161, R189). -/
def Record.bytes (r : Record) : List Byte := [0xC3] ++ r.counted ++ [checkByte r.counted]

/-! ## The frame label -/

/-- The label's bytes before its check (Table 85). -/
def Frame.labelHead (f : Frame) : List Byte :=
  u8 0x5A ++ u8 f.lane.val ++ [f.tag] ++ encodeRef (some ⟨f.items.sequence, f.items.index, f.items.origin⟩) ++
    u8 (f.items.mode.getD .adaptive).code ++ u8 f.items.tracker.code ++ u8 f.items.flagByte ++
    u8 f.items.substituted ++ u8 f.items.interpolated ++ u8 f.items.unrepaired

/-- The frame label's 19 bytes (R196). -/
def Frame.label (f : Frame) : List Byte := f.labelHead ++ [checkByte f.labelHead]

/-- The words of line 0 of a send: the label, one byte to a word, then 512 (R196). -/
def Frame.ancillaryLine (f : Frame) : List Sample :=
  f.label.map (fun b => b.setWidth 10) ++ List.replicate (3840 - f.label.length) 512

/-- The words of the line that lane `l`'s channel is sending: line 0 carries the label, lines 1 to 1080 are raster lines
0 to 1079 (R123, R124). R123 has the channel mark the start of the frame with the first line and gives the mark no signal and
no form: the model has no mark beside that line, and the start is known as `sending 0` (DESIGN CHOICE, log entry 26). -/
def Device.lineOut (d : Device) (l : Lane) : Option (List Sample) :=
  let c := (d.lane l).channel
  match c.send, c.queue with
  | .sending 0, f :: _ => some f.ancillaryLine
  | .sending n, f :: _ => some ((List.range 3840).map fun w => d.dram.read (bufferAddr l f.buffer (n - 1) w))
  | _, _ => none

end Sys2Proof.Machine
end

