-- ==== Sys2Proof/Machine/LinkOps.lean ====
section
/-! DEFINITION. The Control Link Interface: byte times, the receiver, and the sending of records (09 sections 9.1 to 9.7). -/
namespace Sys2Proof.Machine

/-! ## Sending -/

/-- The next byte time of a selection begins: the byte chosen is the next of the record in flight, or the START of the
head record, which is then due to start out, or filler (R172). -/
def Link.beginByte (k : Link) : Link :=
  { k with
    byteTime :=
      match k.inFlight, k.outbound with
      | some _, _ => .carrying
      | none, [] => .filler
      | none, _ :: _ => .startDue }

/-- The head record starts out: at its first start its LINK byte takes the link flags, which are cleared (R172, R173). -/
def Link.startOut (k : Link) : Link :=
  match k.outbound with
  | [] => { k with byteTime := .filler }
  | r :: rest =>
    let r1 : Record := { r with link := some (r.link.getD k.flags) }
    { k with
      outbound := r1 :: rest
      inFlight := some ⟨r1, 0, false⟩
      flags := if r.link.isSome then k.flags else LinkFlags.empty
      byteTime := .carrying }

/-- A start that is due is made, before the byte time that carries it can end (log entry 8). -/
def Link.startDue (k : Link) : Link :=
  match k.byteTime with
  | .startDue => k.startOut
  | _ => k

/-- The byte on data out in this byte time, when select is low (R160, R172). -/
def Link.dataOut (k : Link) : Option Byte :=
  match k.byteTime, k.inFlight with
  | .closed, _ => none
  | .filler, _ => some 0
  | .startDue, _ => some 0xC3
  | .carrying, some f => f.record.bytes[f.count]?
  | .carrying, none => some 0

/-- The lane whose COMPLETION a message is. -/
def Message.completionLane : Message → Option Lane
  | .notice (.completion c) => some c.lane
  | _ => none

/-- The held completion of a lane whose COMPLETION has left the queue joins its tail (R134, R171). -/
def releaseHeld (d : Device) (k : Link) (m : Message) : Device × Link :=
  match m.completionLane with
  | none => (d, k)
  | some l =>
    match (d.lane l).op.held with
    | none => (d, k)
    | some c =>
      (d.modLane l fun u => { u with op := { u.op with held := none } }, k.join (.notice (.completion c)))

/-- The record in flight leaves: an orphan is gone, any other leaves the head of the outbound queue (R172, R179). -/
def recordLeaves (d : Device) (k : Link) (f : InFlight) : Device × Link :=
  let k1 := { k with inFlight := none }
  if f.orphan then (d, k1) else releaseHeld d { k1 with outbound := k.outbound.tail } f.record.message

/-- The outbound half of the end of a byte time: the byte chosen counts as shifted out, and after its CHECK byte the
record leaves (R160, R172). -/
def endOutByte (d : Device) (k : Link) : Device × Link :=
  match k.byteTime, k.inFlight with
  | .carrying, some f =>
    if f.count + 1 < f.record.bytes.length then (d, { k with inFlight := some { f with count := f.count + 1 } })
    else recordLeaves d k f
  | _, _ => (d, k)

/-! ## The receiver -/

/-- A frame is complete with its CHECK byte: a good frame joins the request queue or is lost to OVERRUN, a bad one sets
CHECK_FAILED (R163, R164). The sum runs from LENGTH through CHECK. -/
def Link.frameDone (k : Link) (len : Nat) (bytes : List Byte) (check : Byte) : Link :=
  let k1 := { k with receiver := .hunt }
  if byteSum (u8 len ++ bytes ++ [check]) ≠ 0 then { k1 with flags := { k.flags with checkFailed := true } }
  else if Config.requestPlaces ≤ k.requests.length then { k1 with flags := { k.flags with overrun := true } }
  else
    { k1 with
      requests := k.requests ++ [⟨bytes.getD 0 0, bytes.getD 1 0, bytes.drop 2⟩] }

/-- The receiver moves by one received byte (R162, R163, R164, Table 67). -/
def Link.receive (k : Link) (b : Byte) : Link :=
  match k.receiver with
  | .hunt => if b = 0xC3 then { k with receiver := .length } else k
  | .length =>
    if 2 ≤ b.toNat && b.toNat ≤ 250 then { k with receiver := .body b.toNat [] }
    else { k with receiver := .hunt, flags := { k.flags with format := true } }
  | .body len bytes =>
    if len ≤ bytes.length + 1 then { k with receiver := .check len (bytes ++ [b]) }
    else { k with receiver := .body len (bytes ++ [b]) }
  | .check len bytes => k.frameDone len bytes b

/-! ## Select and byte times -/

/-- A byte time ends with the inbound byte `b`: the byte is received, the outbound byte counts as shifted out, and the
next byte time begins at once (R160). -/
def endByteTime (d : Device) (k : Link) (b : Byte) : Device × Link :=
  let p := endOutByte d (k.startDue.receive b)
  (p.1, p.2.beginByte)

/-- The state after the end of a byte time. While select is high there is none to end (R160). -/
def State.byteTimeEnd (s : State) (b : Byte) : State :=
  if s.link.selected then
    let p := endByteTime s.dev s.link b
    { s with dev := p.1, link := p.2 }
  else s

/-- Select falls: a selection opens and its first byte time begins (R160). -/
def Link.selectFall (k : Link) : Link := if k.selected then k else { k with selected := true }.beginByte

/-- Select rises: the frame under assembly is discarded with TRUNCATED, and a record in flight stays at the head of the
queue to be sent again whole, or is gone when a RESET had taken it out (R163, R174, R179). -/
def Link.selectRise (k : Link) : Link :=
  if k.selected then
    let k1 := k.startDue
    let k2 := { k1 with selected := false, byteTime := .closed, inFlight := none }
    match k1.receiver with
    | .hunt => k2
    | _ => { k2 with receiver := .hunt, flags := { k1.flags with truncated := true } }
  else k

/-- A record starts out when a start is due (R172, R173). -/
def Link.recordStart (k : Link) : Link :=
  match k.byteTime, k.inFlight with
  | .startDue, none => k.startOut
  | _, _ => k

/-- Does the byte time under way shift out the CHECK byte of the record in flight? (R172) -/
def Link.sendingCheck (k : Link) : Bool :=
  match k.byteTime, k.inFlight with
  | .carrying, some f => f.record.bytes.length ≤ f.count + 1
  | _, _ => false

/-- Is the receiver waiting for a CHECK byte? (Table 67) -/
def Link.awaitsCheck (k : Link) : Bool :=
  match k.receiver with
  | .check _ _ => true
  | _ => false

/-- Is the receiver waiting for a LENGTH byte, and `b` not a length that a frame may have? (R163) -/
def Link.badLength (k : Link) (b : Byte) : Bool :=
  match k.receiver with
  | .length => !(2 ≤ b.toNat && b.toNat ≤ 250)
  | _ => false

/-! ## The maintenance strap -/

/-- The strap falls: it reads inactive, and the access level is OPERATOR (R184). -/
def Device.strapFall (d : Device) : Device := { d with strap := false, handler := { d.handler with access := .operator } }

/-- The strap rises: it reads active; the access level stands (R184). -/
def Device.strapRise (d : Device) : Device := { d with strap := true }

end Sys2Proof.Machine
end

