-- ==== Sys2Proof/Machine/Operands.lean ====
section
/-! DEFINITION. The forms of the request bodies: reading their numbers and values, and the lengths each kind may have
(R191, Table 78). -/
namespace Sys2Proof.Machine

/-- An unsigned number, most significant byte first (R161). -/
def beNat (bs : List Byte) : Nat := bs.foldl (fun n b => n * 256 + b.toNat) 0

/-- The `n`-byte number at offset `at_` of a body. -/
def field (body : List Byte) (at_ n : Nat) : Nat := beNat ((body.drop at_).take n)

/-- The two's complement value of a 16-bit number (R189). -/
def signed16 (n : Nat) : Int := if n < 32768 then (n : Int) else (n : Int) - 65536

/-- The request kinds (Table 86). -/
def isRequestKind (k : Nat) : Bool := (1 ≤ k && k ≤ 0x0C) || (0x10 ≤ k && k ≤ 0x18)

/-- The shortest and the longest body of a request kind (Table 78). -/
def bodyLengths : Nat → Nat × Nat
  | 0x03 => (2, 2)
  | 0x04 => (1, 37)
  | 0x05 => (28, 28)
  | 0x06 => (6, 6)
  | 0x07 => (1, 1)
  | 0x08 => (4, 4)
  | 0x09 => (1, 1)
  | 0x0A => (3, 15)
  | 0x10 => (2, 2)
  | 0x11 => (1, 1)
  | 0x12 => (10, 10)
  | 0x13 => (13, 13)
  | 0x14 => (7, 7)
  | 0x15 => (12, 12)
  | 0x16 => (1, 1)
  | 0x17 => (1, 1)
  | 0x18 => (1, 1)
  | _ => (0, 0)

/-- Is the body's length one that the kind may have? (R167) -/
def lengthOk (kind : Nat) (body : List Byte) : Bool :=
  (bodyLengths kind).1 ≤ body.length && body.length ≤ (bodyLengths kind).2

/-- A lane number 0 to 3. -/
def readLane (n : Nat) : Option Lane := if h : n < 4 then some ⟨n, h⟩ else none

/-! ## Enumerated values (Table 77) -/

/-- Standard. -/
def readStandard : Nat → Option Standard
  | 0 => some .s625
  | 1 => some .s525
  | _ => none

/-- Dominance. -/
def readParity : Nat → Option Parity
  | 0 => some 0
  | 1 => some 1
  | _ => none

/-- Timecode mode. -/
def readTcMode : Nat → Option TcMode
  | 0 => some .none
  | 1 => some .nonDrop
  | 2 => some .drop
  | 3 => some .follow
  | _ => none

/-- Repair method. -/
def readRepair : Nat → Option RepairMethod
  | 0 => some .off
  | 1 => some .temporalFirst
  | 2 => some .spatialFirst
  | _ => none

/-- A setting that is off or on. -/
def readBool : Nat → Option Bool
  | 0 => some false
  | 1 => some true
  | _ => none

/-- CUE mode. -/
def readCueMode : Nat → Option CueMode
  | 0 => some .exact
  | 1 => some .atOrAfter
  | _ => none

/-- SCAN measure. -/
def readMeasure : Nat → Option ScanMeasure
  | 0 => some .scene
  | 1 => some .comb
  | 2 => some .level
  | _ => none

/-- SCAN parity filter: ANY, PARITY0, PARITY1. -/
def readParityFilter : Nat → Option (Option Parity)
  | 0 => some none
  | 1 => some (some 0)
  | 2 => some (some 1)
  | _ => none

/-- The highest index a request may name (R130). -/
def maxIndex : Nat := 5183999

/-! ## Parameters of the operation requests (R130, fourth check) -/

/-- ACQUIRE's wait limit, 1 to 255. -/
def readAcquire (b : List Byte) : Option Nat := if field b 1 1 = 0 then none else some (field b 1 1)

/-- CUE's mode, target and limit. -/
def readCue (b : List Byte) : Option (CueMode × Nat × Nat) :=
  match readCueMode (field b 1 1) with
  | none => none
  | some m =>
    if field b 2 4 ≤ maxIndex && 1 ≤ field b 6 4 && field b 6 4 ≤ 1048575 then some (m, field b 2 4, field b 6 4)
    else none

/-- A transfer's start: its code and S, which is not checked when the start is IMMEDIATE (R191). -/
def readStart (code s : Nat) : Option TransferStart :=
  match code with
  | 0 => some .immediate
  | 1 => if s ≤ maxIndex then some (.atIndex s) else none
  | _ => none

/-- A transfer's end: its code and value, which is not checked when the end is OPEN (R191). -/
def readEnd (code v : Nat) : Option TransferEnd :=
  match code with
  | 0 => some .never
  | 1 => if 1 ≤ v && v ≤ 16777215 then some (.count v) else none
  | 2 => if v ≤ maxIndex then some (.atIndex v) else none
  | _ => none

/-- Does an end lie before a start, both AT_INDEX? (R130, R154) -/
def endBeforeStart : TransferStart → TransferEnd → Bool
  | .atIndex s, .atIndex e => e < s
  | _, _ => false

/-- TRANSFER's parameters. -/
def readTransfer (b : List Byte) : Option TransferParams :=
  match readStart (field b 2 1) (field b 3 4), readEnd (field b 7 1) (field b 8 4) with
  | some st, some en =>
    let o := field b 12 1
    if field b 1 1 ≤ 7 && o < 16 && !endBeforeStart st en then
      some ⟨field b 1 1, st, en, o.testBit 0, o.testBit 1, o.testBit 2, o.testBit 3⟩
    else none
  | _, _ => none

/-- SCAN's comparison: its code and tolerance, which is not checked unless the comparison is EQUAL (R191). -/
def readComparison (code tol : Nat) : Option Comparison :=
  match code with
  | 0 => if tol ≤ 16368 then some (.equal tol) else none
  | 1 => some .atOrBelow
  | 2 => some .atOrAbove
  | _ => none

/-- SCAN's parameters. -/
def readScan (b : List Byte) : Option ScanParams :=
  match readMeasure (field b 1 1), readComparison (field b 2 1) (field b 3 2), readParityFilter (field b 7 1) with
  | some m, some c, some p =>
    if field b 5 2 ≤ 16368 && 1 ≤ field b 8 4 && field b 8 4 ≤ 1048575 then some ⟨m, c, field b 5 2, p, field b 8 4⟩
    else none
  | _, _, _ => none

/-! ## Profiles (R109) -/

/-- The profile of a LOAD PROFILE body, as sent. -/
def readProfile (b : List Byte) : Profile where
  x0 := field b 1 2
  ws := field b 3 2
  y0 := field b 5 2
  hs := field b 7 2
  xd := field b 9 2
  yd := field b 11 2
  wd := field b 13 2
  hd := field b 15 2
  filterSet := field b 17 1
  borderY  := field b 18 2
  borderCb := field b 20 2
  borderCr := field b 22 2
  mlow := field b 24 2
  gain := field b 26 2

/-- Is a number in a range? -/
def inRange (lo hi n : Nat) : Bool := lo ≤ n && n ≤ hi

/-- Is the geometry valid? (R109) -/
def Profile.geometryOk (p : Profile) : Bool :=
  inRange 0 704 p.x0 && inRange 16 720 p.ws && inRange 0 560 p.y0 && inRange 16 576 p.hs && inRange 0 1904 p.xd &&
    inRange 0 1064 p.yd && inRange 16 1920 p.wd && inRange 16 1080 p.hd && p.ws % 2 = 0 && p.xd % 2 = 0 &&
    p.wd % 2 = 0 && p.x0 + p.ws ≤ 720 && p.y0 + p.hs ≤ 576 && p.xd + p.wd ≤ 1920 && p.yd + p.hd ≤ 1080 &&
    p.ws ≤ 2 * p.wd && p.wd ≤ 4 * p.ws && p.hs ≤ 2 * p.hd && p.hd ≤ 4 * p.hs

/-- The border and blend values clamped (R109). -/
def Profile.clamped (p : Profile) : Profile :=
  { p with
    borderY := min 1023 p.borderY, borderCb := min 1023 p.borderCb, borderCr := min 1023 p.borderCr
    mlow := min 1023 p.mlow, gain := min 4095 p.gain }

/-- The 28-byte form of a profile (Table 79). -/
def encodeProfile (n : Nat) (p : Profile) : List Byte :=
  u8 n ++ u16 p.x0 ++ u16 p.ws ++ u16 p.y0 ++ u16 p.hs ++ u16 p.xd ++ u16 p.yd ++ u16 p.wd ++ u16 p.hd ++
    u8 p.filterSet ++ u16 p.borderY ++ u16 p.borderCb ++ u16 p.borderCr ++ u16 p.mlow ++ u16 p.gain

/-! ## Setting items (R180, R181) -/

/-- A setting item: its code and the value it gives. -/
structure Item where
  code  : Nat
  value : Nat
  deriving DecidableEq, Repr

/-- The items of a CONFIGURE LANE body after its lane byte; three bytes each. -/
def readItems : List Byte → List Item
  | c :: v1 :: v0 :: rest => ⟨c.toNat, beNat [v1, v0]⟩ :: readItems rest
  | _ => []

/-- Does every item's code lie in 01h to 0Ch, none twice? -/
def itemCodesOk (items : List Item) : Bool :=
  (items.all fun i => inRange 1 12 i.code) && decide (items.map Item.code).Nodup

/-- Is the value of an enumerated setting one of its codes? -/
def Item.enumOk (i : Item) : Bool :=
  match i.code with
  | 1 => (readStandard i.value).isSome
  | 2 => (readParity i.value).isSome
  | 3 => (readTcMode i.value).isSome
  | 8 => (readBool i.value).isSome
  | 12 => (readRepair i.value).isSome
  | _ => true

/-- Does an item of standard, dominance or timecode mode give a value that differs from the one in force? -/
def Item.changesFixed (s : Settings) (i : Item) : Bool :=
  match i.code with
  | 1 => readStandard i.value ≠ some s.standard
  | 2 => readParity i.value ≠ some s.dominance
  | 3 => readTcMode i.value ≠ some s.tcMode
  | _ => false

/-- The range of a numeric setting (Table 73). -/
def itemRange : Nat → Option (Nat × Nat)
  | 4 => some (0, 3)
  | 5 => some (5, 60)
  | 6 => some (0, 16368)
  | 7 => some (0, 16368)
  | 9 => some (2, 16)
  | 10 => some (8, 1023)
  | 11 => some (0, 255)
  | _ => none

/-- The item with its numeric value clamped into its range (R181). -/
def Item.clamped (i : Item) : Item :=
  match itemRange i.code with
  | some (lo, hi) => { i with value := clampNat lo hi i.value }
  | none => i

/-- The settings with one item's value in force (R181). -/
def Settings.apply (s : Settings) (i : Item) : Settings :=
  match i.code with
  | 1 => { s with standard := (readStandard i.value).getD s.standard }
  | 2 => { s with dominance := (readParity i.value).getD s.dominance }
  | 3 => { s with tcMode := (readTcMode i.value).getD s.tcMode }
  | 4 => { s with serviceLevel := i.value }
  | 5 => { s with lockCount := i.value }
  | 6 => { s with combThr := i.value }
  | 7 => { s with repeatThr := i.value }
  | 8 => { s with cadenceEnable := (readBool i.value).getD s.cadenceEnable }
  | 9 => { s with lockIn := i.value }
  | 10 => { s with lockLimit := i.value }
  | 11 => { s with flywheelLimit := i.value }
  | 12 => { s with repair := (readRepair i.value).getD s.repair }
  | _ => s

/-- The settings with a request's items in force, each clamped (R181). -/
def Settings.applyItems (s : Settings) (items : List Item) : Settings :=
  items.foldl (fun s i => s.apply i.clamped) s

/-- The twelve settings as items in code order (R181, Table 79). -/
def Settings.encode (s : Settings) : List Byte :=
  u8 1 ++ u16 s.standard.code ++ u8 2 ++ u16 s.dominance.val ++ u8 3 ++ u16 s.tcMode.code ++ u8 4 ++
    u16 s.serviceLevel ++ u8 5 ++ u16 s.lockCount ++ u8 6 ++ u16 s.combThr ++ u8 7 ++ u16 s.repeatThr ++ u8 8 ++
    u16 (bitAt 0 s.cadenceEnable) ++ u8 9 ++ u16 s.lockIn ++ u8 10 ++ u16 s.lockLimit ++ u8 11 ++
    u16 s.flywheelLimit ++ u8 12 ++ u16 s.repair.code

/-- Do two settings differ in a cadence parameter? (R70) -/
def Settings.cadenceChanged (a b : Settings) : Bool :=
  a.cadenceEnable ≠ b.cadenceEnable || a.lockCount ≠ b.lockCount || a.combThr ≠ b.combThr ||
    a.repeatThr ≠ b.repeatThr

/-- The taps of a COEFFICIENT DATA body (R114, R189). -/
def readTaps : List Byte → List Int
  | h :: l :: rest => signed16 (beNat [h, l]) :: readTaps rest
  | _ => []

/-- The settings of SET NOTICES: one pair for each maskable kind, in any order (R176, R191). -/
def readMask (b : List Byte) : Option NoticeMask :=
  let pairs := [(field b 0 1, field b 1 1), (field b 2 1, field b 3 1), (field b 4 1, field b 5 1)]
  let get := fun (k : Nat) => (pairs.find? fun p => p.1 = k).bind fun p => readBool p.2
  match get 0x91, get 0x92, get 0x93 with
  | some l, some c, some o => some ⟨l, c, o⟩
  | _, _, _ => none

end Sys2Proof.Machine
end

