-- ==== Sys2Proof/Machine/Requests.lean ====
section
/-! DEFINITION. The Request Handler: the take of a request, and what each kind does (09 section 9.5, 10, and the rules of
each kind). -/
namespace Sys2Proof.Machine

/-! ## The take -/

/-- What a request answers: the event it makes, and the outcome, CLAMPED flag and data of its reply (R168). -/
structure Answer where
  ev      : Ev
  outcome : ReplyOutcome
  clamped : Bool
  data    : List Byte

/-- A refusal changes nothing in the part apart from its reply, which carries no data (R167, R168). -/
def refuse (d : Device) (c : RefusalCode) : Answer := ⟨Ev.start d, .refused c, false, []⟩

/-- A request carried out at once. -/
def done (e : Ev) (data : List Byte) : Answer := ⟨e, .done, false, data⟩

/-- The request at the head of the queue, when the handler may take it: it is FREE, the queue is not empty, and the
outbound queue holds fewer than 4 replies (R166). -/
def State.takeable (s : State) : Option Request :=
  match s.dev.handler.state, s.link.requests with
  | .free, r :: _ => if s.link.replies < Config.replyPlaces then some r else none
  | _, _ => none

/-- The link after the head request has left the queue (R166). -/
def Link.dequeue (k : Link) : Link := { k with requests := k.requests.tail }

/-- The state after a request was taken and answered: the event's notices join, then the reply (R166, R168, R169). -/
def State.answer (s : State) (r : Request) (a : Answer) : State :=
  let p := a.ev.commit s.link.dequeue
  { s with dev := p.1, link := p.2.join (.reply ⟨r.kind, r.tag, a.outcome, a.clamped, a.data⟩) }

/-- A request of kind `kind` is taken when one is at the head and may be taken; its length is checked first, and then
what `h` makes of it (R166, R167). -/
def State.request (s : State) (kind : Nat) (h : Device → Request → Answer) : State :=
  match s.takeable with
  | some r =>
    if r.kind.toNat = kind then
      s.answer r (if lengthOk kind r.body then h s.dev r else refuse s.dev .length)
    else s
  | none => s

/-! ## Queries -/

/-- The lane part of STATUS, 20 bytes (Table 74). Without a last transfer tag its byte is a free value (DESIGN CHOICE, log
entry 25). -/
def statusLane (d : Device) (l : Lane) : List Byte :=
  let u := d.lane l
  u8 u.ingest.state.code ++ u32 u.ingest.sequence ++ u16 u.ingest.goodRun ++ u8 u.ingest.badRun ++
    u8 (d.slotsInUse l) ++ u8 u.quota ++ u8 u.window.length ++ u8 (u.flagByte (d.runningOf l).isSome) ++
    u8 u.monitor.tracker.code ++ u8 (positionCode u.monitor.filmPos) ++ u8 u.op.state.kind.code ++
    u8 u.op.state.subCode ++ u8 u.op.jobs.length ++
    [(u.op.lastTag.map LastTag.tag).getD (Config.invalidTag l.val u.ingest.sequence)] ++ u8 u.channel.send.code ++ u8 u.channel.queue.length

/-- A filter set's count of received marks (R112). -/
def FilterSet.marks (f : FilterSet) : Nat := f.marksH.toList.count true + f.marksV.toList.count true

/-- Load state and marks of a set as STATUS gives them; set 0 always reads COMPLETE with 64 marks (R186). -/
def statusFilter (d : Device) (i : Fin 4) : List Byte :=
  let f := d.handler.filters[i]
  if i = 0 then u8 1 ++ u8 64 else u8 (bitAt 0 f.complete) ++ u8 f.marks

/-- The lane of the running job, FFh for none (Table 74). -/
def runningLaneCode (d : Device) : Nat :=
  match d.engine.running with
  | some j => j.lane.val
  | none => 255

/-- The STATUS data, 96 bytes; `requests` frames wait after STATUS has left the queue, and `outbound` records before its
reply joins (R186). -/
def statusData (d : Device) (requests outbound : Nat) : List Byte :=
  u8 d.handler.access.code ++ u8 (bitAt 0 d.strap) ++ u8 d.freeList.length ++ u8 requests ++ u8 outbound ++
    u8 (runningLaneCode d) ++ u8 d.engine.pointer.val ++ u8 d.handler.mask.byte ++
    (List.finRange 4).flatMap (statusFilter d) ++ (List.finRange 4).flatMap (statusLane d)

/-- STATUS (R186). -/
def statusRequest (k : Link) (d : Device) (_ : Request) : Answer :=
  done (Ev.start d) (statusData d k.dequeue.requests.length k.outbound.length)

/-- CAPABILITIES (R187). -/
def capabilitiesRequest (d : Device) (_ : Request) : Answer :=
  done (Ev.start d) ([4, 96, 8, 4, 8, 4, 32, 4, 16, 3] : List Byte)

/-- INSPECT FIELD (R188): position 0 is the newest member. -/
def inspectRequest (d : Device) (r : Request) : Answer :=
  let pos := field r.body 1 1
  match readLane (field r.body 0 1) with
  | none => refuse d .range
  | some l =>
    if 3 < pos then refuse d .range
    else
      match (d.lane l).window.reverse[pos]? with
      | some i =>
        match d.record i with
        | some rec => done (Ev.start d) (encodeFieldRecord l pos i rec)
        | none => done (Ev.start d) (u8 0 ++ u8 l.val ++ u8 pos)
      | none => done (Ev.start d) (u8 0 ++ u8 l.val ++ u8 pos)

/-! ## Settings and tables -/

/-- CONFIGURE LANE (R180, R181, R70). -/
def configureRequest (d : Device) (r : Request) : Answer :=
  if (r.body.length - 1) % 3 ≠ 0 then refuse d .length
  else
    match readLane (field r.body 0 1) with
    | none => refuse d .range
    | some l =>
      let u := d.lane l
      let items := readItems r.body.tail
      let set := u.settings.applyItems items
      if !itemCodesOk items then refuse d .range
      else if !(items.all Item.enumOk) then refuse d .range
      else if u.ingest.state ≠ .off && items.any (Item.changesFixed u.settings) then refuse d .busy
      else if set.standard = .s625 && set.tcMode = .drop then refuse d .range
      else
        let e := (Ev.start d).modLane l fun u => { u with settings := set }
        ⟨if u.settings.cadenceChanged set then e.resetTracker l u.ingest.sequence else e, .done,
          items.any fun i => i.clamped ≠ i, u8 l.val ++ set.encode⟩

/-- LOAD PROFILE (R109). -/
def loadProfileRequest (d : Device) (r : Request) : Answer :=
  let n := field r.body 0 1
  let p := readProfile r.body
  if 7 < n || 3 < p.filterSet then refuse d .range
  else if !p.geometryOk then refuse d .range
  else
    let q := p.clamped
    ⟨Ev.start { d with handler := { d.handler with profiles := d.handler.profiles.set (Fin.ofNat 8 n) q } }, .done,
      decide (q ≠ p), encodeProfile n q⟩

/-- SET NOTICES (R176). -/
def setNoticesRequest (d : Device) (r : Request) : Answer :=
  match readMask r.body with
  | some m => done (Ev.start { d with handler := { d.handler with mask := m } }) (u8 m.byte)
  | none => refuse d .range

/-- SET ACCESS (R183). -/
def setAccessRequest (d : Device) (r : Request) : Answer :=
  let grantLevel := fun (a : Access) =>
    done (Ev.start { d with handler := { d.handler with access := a } }) (u8 a.code ++ u8 (bitAt 0 d.strap))
  match field r.body 0 1 with
  | 0 => grantLevel .operator
  | 1 => if d.strap then grantLevel .engineering else refuse d .privilege
  | _ => refuse d .range

/-- Are all four lanes OFF? (R36, R47) -/
def Device.allOff (d : Device) : Bool := (List.finRange 4).all fun l => (d.lane l).ingest.state = .off

/-- A lane's quota in a PARTITION body (Table 78). -/
def quotaIn (body : List Byte) (l : Lane) : Nat := field body l.val 1

/-- Does each quota lie in 8 to 72, and do the four sum to 96 or less? (R36) -/
def quotasOk (body : List Byte) : Bool :=
  ((List.finRange 4).all fun l => inRange 8 72 (quotaIn body l)) &&
    ((List.finRange 4).map (quotaIn body)).sum ≤ 96

/-- The part with lane `l`'s quota as a PARTITION body gives it. -/
def Device.setQuota (body : List Byte) (d : Device) (l : Lane) : Device :=
  d.modLane l fun u => { u with quota := quotaIn body l }

/-- PARTITION (R36). -/
def partitionRequest (d : Device) (r : Request) : Answer :=
  if d.handler.access ≠ .engineering then refuse d .privilege
  else if !d.allOff then refuse d .busy
  else if !quotasOk r.body then refuse d .range
  else done (Ev.start ((List.finRange 4).foldl (Device.setQuota r.body) d)) r.body

/-- Does a transfer of some lane hold a snapshot that names the set? (R113) -/
def Device.setInUse (d : Device) (n : Nat) : Bool :=
  (List.finRange 4).any fun l =>
    match (d.lane l).op.state, (d.lane l).op.snapshot with
    | .transfer _ _, some s => s.profile.filterSet = n
    | _, _ => false

/-- The part with filter set `i` replaced. -/
def Device.setFilter (d : Device) (i : Fin 4) (f : FilterSet) : Device :=
  { d with handler := { d.handler with filters := d.handler.filters.set i f } }

/-- A set whose load opens: INCOMPLETE, no marks, its coefficients kept (R113). -/
def FilterSet.opened (f : FilterSet) : FilterSet :=
  { f with complete := false, marksH := Vector.replicate 32 false, marksV := Vector.replicate 32 false }

/-- LOAD COEFFICIENTS (R113). -/
def loadCoefficientsRequest (d : Device) (r : Request) : Answer :=
  let n := field r.body 0 1
  if d.handler.access ≠ .engineering then refuse d .privilege
  else if n = 0 || 3 < n then refuse d .range
  else if d.setInUse n then refuse d .inUse
  else
    done (Ev.start (d.setFilter (Fin.ofNat 4 n) (d.handler.filters[Fin.ofNat 4 n]).opened))
      (u8 n ++ u8 0 ++ u8 0)

/-- A set with one phase of taps written and its mark set (R114); with the 64th mark it is COMPLETE (R115). -/
def FilterSet.write (f : FilterSet) (vertical : Bool) (phase : Fin 32) (taps : List Int) : FilterSet :=
  let f1 :=
    if vertical then
      { f with
        v := f.v.set phase (Vector.ofFn fun (t : Fin 4) => taps.getD t.val 0)
        marksV := f.marksV.set phase true }
    else
      { f with
        h := f.h.set phase (Vector.ofFn fun (t : Fin 6) => taps.getD t.val 0)
        marksH := f.marksH.set phase true }
  { f1 with complete := f1.marks = 64 }

/-- COEFFICIENT DATA (R114, R115). -/
def coefficientDataRequest (d : Device) (r : Request) : Answer :=
  let n := field r.body 0 1
  let dir := field r.body 1 1
  let phase := field r.body 2 1
  let taps := readTaps (r.body.drop 3)
  let i := Fin.ofNat 4 n
  if d.handler.access ≠ .engineering then refuse d .privilege
  else if 3 < n || 1 < dir || 31 < phase then refuse d .range
  else if r.body.length ≠ 3 + 2 * (if dir = 1 then 4 else 6) then refuse d .length
  else if (d.handler.filters[i]).complete then refuse d .notOpen
  else if taps.sum ≠ 16384 then refuse d .range
  else
    let f := (d.handler.filters[i]).write (dir = 1) (Fin.ofNat 32 phase) taps
    done (Ev.start (d.setFilter i f)) (u8 f.marks ++ u8 (bitAt 0 f.complete))

/-! ## The self test and RESET -/

/-- Has no Output Channel a frame in its queue or in sending? (R47) -/
def Device.noFrames (d : Device) : Bool := (List.finRange 4).all fun l => (d.lane l).channel.queue.isEmpty

/-- Why a SELF TEST request is refused, if it is (R47, R191). -/
def selfTestRefusal (d : Device) (body : List Byte) : Option RefusalCode :=
  if !lengthOk 0x0B body then some .length
  else if d.handler.access ≠ .engineering then some .privilege
  else if !(d.allOff && d.noFrames) then some .busy
  else none

/-- The take of a SELF TEST: refused at once, or the test starts and the handler is SELF_TESTING without a reply yet; the
test destroys the contents of the whole DRAM (R47, R48, R166). -/
def State.selfTest (s : State) : State :=
  match s.takeable with
  | some r =>
    if r.kind.toNat = 0x0B then
      match selfTestRefusal s.dev r.body with
      | some c => s.answer r (refuse s.dev c)
      | none =>
        { s with
          dev := { s.dev with handler := { s.dev.handler with state := .selfTesting r.tag }, dram := s.dev.dram.forgetAll }
          link := s.link.dequeue }
    else s
  | none => s

/-- The reply of a self test: PASS, or FAIL with the failing unit (R48, R192). -/
def selfTestReply (tag : Byte) (failingUnit : Option Nat) : Reply :=
  ⟨0x0B, tag, .done, false,
    match failingUnit with
    | none => u8 0 ++ u8 0
    | some u => u8 1 ++ u8 u⟩

/-- The self test ends: the reply is placed, the handler is FREE, and the DRAM's contents are undefined (R48). -/
def State.endSelfTest (s : State) (failingUnit : Option Nat) : State :=
  match s.dev.handler.state with
  | .selfTesting tag =>
    { s with
      dev := { s.dev with handler := { s.dev.handler with state := .free }, dram := s.dev.dram.forgetAll }
      link := s.link.join (.reply (selfTestReply tag failingUnit)) }
  | .free => s

/-- A lane after the RESET request: its settings, its quota and the level of ready are kept (R17, R30, R49, R84, R128,
R159). -/
def LaneUnit.afterReset (u : LaneUnit) : LaneUnit :=
  { LaneUnit.powerOn with
    settings := u.settings, quota := u.quota, channel := { Channel.powerOn with ready := u.channel.ready } }

/-- The blocks after the RESET request (R179): every block's RESET values; kept are the lane settings, the quotas, the
profiles, the filter sets, the notice mask, and the levels of the strap and of ready. -/
def Device.afterReset (d : Device) : Device where
  lanes    := d.lanes.map LaneUnit.afterReset
  slots    := Vector.replicate 96 Slot.empty
  freeList := initialFreeList
  dram     := d.dram.forgetBuffers
  engine   := Engine.reset
  handler  := { d.handler with state := .free, access := .operator }
  strap    := d.strap

/-- The record in flight across a RESET: one whose START has been shifted out is sent on, out of the queue (R179). -/
def InFlight.acrossReset (f : InFlight) : Option InFlight := if f.count = 0 then none else some { f with orphan := true }

/-- The byte time under way across a RESET: it goes on carrying a record that is sent on, and carries none otherwise
(log entry 9). -/
def Link.byteTimeAcross (k : Link) : ByteTime :=
  match k.byteTime, k.inFlight.bind InFlight.acrossReset with
  | .closed, _ => .closed
  | _, some _ => .carrying
  | _, none => .filler

/-- The link after the RESET request with TAG `tag`: both queues emptied, the flags cleared, the reply alone placed; the
receiver and select are not touched (R179). -/
def Link.afterReset (k : Link) (tag : Byte) : Link :=
  { k with
    requests := []
    flags := LinkFlags.empty
    inFlight := k.inFlight.bind InFlight.acrossReset
    byteTime := k.byteTimeAcross
    outbound := [⟨.reply ⟨0x0C, tag, .done, false, []⟩, none⟩] }

/-- The take of a RESET (R179). -/
def State.resetRequest (s : State) : State :=
  match s.takeable with
  | some r =>
    if r.kind.toNat = 0x0C then
      if lengthOk 0x0C r.body then { s with dev := s.dev.afterReset, link := s.link.afterReset r.tag }
      else s.answer r (refuse s.dev .length)
    else s
  | none => s

/-- The lane after power-on reset; the level of ready is the recorder's (R178, log entry 4). -/
def LaneUnit.afterPowerOn (u : LaneUnit) : LaneUnit :=
  { LaneUnit.powerOn with channel := { Channel.powerOn with ready := u.channel.ready } }

/-- Power-on reset: every block takes its power-on values and READY is the only record; the input levels stay, and the
DRAM's contents are undefined (R178, R185, log entries 4 and 9). -/
def State.powerOn (s : State) : State :=
  { s with
    dev :=
      { Device.powerOn with
        lanes := s.dev.lanes.map LaneUnit.afterPowerOn, dram := s.dev.dram.forgetAll, strap := s.dev.strap }
    link :=
      { Link.powerOn with
        selected := s.link.selected, byteTime := if s.link.selected then .filler else .closed } }

/-! ## Operation requests -/

/-- The Operation Controller as an accepted operation request leaves it (R130, R153): its parameters and TAG kept, counts
0, causes empty, no ending cause, no first or last field; any operation but a transfer clears the last transfer tag. -/
def Controller.accept (op : Controller) (st : OpState) (tag : Byte) : Controller :=
  { op with
    state := st, tag := tag, counts := Counts.zero, causes := [], endCause := none, endClass := none
    first := none, last := none, lastTag := none, limitCount := 0, previousIndex := none }

/-- An accepted operation request replies STARTED. -/
def started (e : Ev) (data : List Byte) : Answer := ⟨e, .started, false, data⟩

/-- The first two checks of R130, and then the rest by `h`: the lane number, and the lane's operation IDLE with no held
completion. -/
def operationRequest (d : Device) (r : Request) (h : Lane → Answer) : Answer :=
  match readLane (field r.body 0 1) with
  | none => refuse d .range
  | some l =>
    if !(d.lane l).op.state.isIdle || (d.lane l).op.held.isSome then refuse d .busy else h l

/-- The third check of R130 for CUE, TRANSFER, SCAN and PROBE: an enabled lane, and then a LOCKED one. -/
def lockedLaneRequest (d : Device) (r : Request) (h : Lane → Answer) : Answer :=
  operationRequest d r fun l =>
    match (d.lane l).ingest.state with
    | .off => refuse d .laneOff
    | .locked => h l
    | _ => refuse d .notLocked

/-- ACQUIRE (R130, R135, R136). -/
def acquireRequest (d : Device) (r : Request) : Answer :=
  operationRequest d r fun l =>
    match readAcquire r.body with
    | none => refuse d .range
    | some wait =>
      let st := (d.lane l).ingest.state
      if st = .locked then done (Ev.start d) (u8 LaneState.locked.code)
      else
        let e := (Ev.start d).modOp l fun op =>
          { op.accept (.acquiring wait) r.tag with seekingCount := 0, waitTimer := true }
        let e1 := if st = .off then e.enableLane l 0 else e
        started e1 (u8 (e1.dev.lane l).ingest.state.code)

/-- RELEASE (R141). -/
def releaseRequest (d : Device) (r : Request) : Answer :=
  match readLane (field r.body 0 1) with
  | none => refuse d .range
  | some l => done ((Ev.start d).releaseLane l) []

/-- CUE (R130, R142). -/
def cueRequest (d : Device) (r : Request) : Answer :=
  lockedLaneRequest d r fun l =>
    match readCue r.body with
    | none => refuse d .range
    | some (m, t, lim) => started ((Ev.start d).modOp l fun op => op.accept (.cueing m t lim) r.tag) []

/-- The Operation Controller as an accepted TRANSFER leaves it: ARMED with its snapshot, and WINDOW_CLAMPED observed when
the snapshot carries the mark (R110, R145, R153). -/
def Controller.acceptTransfer (op : Controller) (p : TransferParams) (snap : Snapshot) (tag : Byte) : Controller :=
  { op.accept (.transfer .armed p) tag with
    snapshot := some snap, jobsCreated := 0, lastJobIndex := none, pendingDiscontinuity := false
    lastTag := some ⟨tag, false⟩, transferId := op.transferId + 1
    causes := if snap.windowClamped then [.windowClamped] else [] }

/-- TRANSFER (R110, R115, R130, R145). -/
def transferRequest (d : Device) (r : Request) : Answer :=
  lockedLaneRequest d r fun l =>
    match readTransfer r.body with
    | none => refuse d .range
    | some p =>
      let profile := d.handler.profiles[Fin.ofNat 8 p.profile]
      if !(d.handler.filters[Fin.ofNat 4 profile.filterSet]).complete then refuse d .incomplete
      else
        let snap := takeSnapshot (d.lane l).settings.standard profile
        started ((Ev.start d).modOp l fun op => op.acceptTransfer p snap r.tag) []

/-- Is a new end behind the work already done? (R154) -/
def Controller.behind (op : Controller) (t : TransferEnd) : Bool :=
  match t with
  | .never => false
  | .count n => n ≤ op.jobsCreated
  | .atIndex e => op.lastJobIndex.any fun ix => e ≤ ix

/-- An accepted AMEND: the end replaced, AMENDED observed, and in RUNNING the new end tested at once (R154). -/
def Ev.amend (e : Ev) (l : Lane) (sub : SubState) (p : TransferParams) (t : TransferEnd) : Ev :=
  let e1 := e.modOp l fun op =>
    { op with state := .transfer sub { p with ending := t }, causes := insertCause .amended op.causes }
  if sub = .running && (e1.dev.lane l).op.behind t then e1.endTransfer l .normal (some .endReached) else e1

/-- The refusal of an AMEND that finds no matching transfer (R154). -/
def Controller.amendRefusal (op : Controller) (tag : Byte) : RefusalCode :=
  if op.lastTag = some ⟨tag, true⟩ then .tooLate else .notRunning

/-- AMEND (R154). -/
def amendRequest (d : Device) (r : Request) : Answer :=
  match readLane (field r.body 0 1), readEnd (field r.body 2 1) (field r.body 3 4) with
  | some l, some t =>
    let op := (d.lane l).op
    let tag : Byte := BitVec.ofNat 8 (field r.body 1 1)
    match op.state with
    | .transfer sub p =>
      if op.tag ≠ tag then refuse d (op.amendRefusal tag)
      else if sub = .draining then refuse d .tooLate
      else if sub = .armed && endBeforeStart p.start t then refuse d .range
      else done ((Ev.start d).amend l sub p t) []
    | _ => refuse d (op.amendRefusal tag)
  | _, _ => refuse d .range

/-- SCAN (R130, R156). -/
def scanRequest (d : Device) (r : Request) : Answer :=
  lockedLaneRequest d r fun l =>
    match readScan r.body with
    | none => refuse d .range
    | some p => started ((Ev.start d).modOp l fun op => op.accept (.scanning p) r.tag) []

/-- PROBE (R130, R157). -/
def probeRequest (d : Device) (r : Request) : Answer :=
  lockedLaneRequest d r fun l => started ((Ev.start d).modOp l fun op => op.accept .probing r.tag) []

/-- LINE TEST (R130, R158). -/
def lineTestRequest (d : Device) (r : Request) : Answer :=
  operationRequest d r fun l =>
    if (d.lane l).ingest.state ≠ .off then refuse d .busy
    else started ((Ev.start d).modOp l fun op => op.accept (.lineTesting LineWatch.start) r.tag) []

/-- STOP (R140). -/
def stopRequest (d : Device) (r : Request) : Answer :=
  match readLane (field r.body 0 1) with
  | none => refuse d .range
  | some l =>
    if (d.lane l).op.state.isIdle then refuse d .notRunning
    else
      done (((Ev.start d).abort l).modDev fun d => d.discardJobs l [] []) []

/-- The take of a request whose KIND is no request kind (R167). -/
def State.unknownKind (s : State) : State :=
  match s.takeable with
  | some r => if isRequestKind r.kind.toNat then s else s.answer r (refuse s.dev .unknownKind)
  | none => s

/-! ## Timers of the operations -/

/-- The ACQUIRE wait timer expires, while it runs (R139). -/
def Ev.waitExpiry (e : Ev) (l : Lane) : Ev :=
  let u := e.dev.lane l
  match u.op.state with
  | .acquiring _ =>
    if u.op.waitTimer then
      e.endNow l .abnormal (some (if u.ingest.state = .noSignal then .noSignal else .lockFailed)) .nothing
    else e
  | _ => e

/-- The watch with the levels `seen` of the field-start input noted besides those its pulses showed (R158, log entry 10). -/
def LineWatch.noteLevels (w : LineWatch) (seen : SeenLevels) : LineWatch :=
  { w with
    highSeen := w.highSeen || decide (seen ≠ .lowOnly)
    lowSeen := w.lowSeen || decide (seen ≠ .highOnly) }

/-- The line code of a LINE TEST: the first check of Table 65 that fails (R158). -/
def LineWatch.code (w : LineWatch) : Nat :=
  if !w.sampleSeen then 1
  else if !w.highSeen then 2
  else if !w.lowSeen then 3
  else if 4 ≤ w.fieldStarts && !(w.parity0Seen && w.parity1Seen) then 4
  else 0

/-- The LINE TEST window ends, while it is open; `seen` is what the field-start input showed in it (R158). -/
def Ev.windowEnd (e : Ev) (l : Lane) (seen : SeenLevels) : Ev :=
  match (e.dev.lane l).op.state with
  | .lineTesting w => e.endNow l .normal none (.lineCode (w.noteLevels seen).code)
  | _ => e

end Sys2Proof.Machine
end

