-- ==== Sys2Proof/Machine/EngineEvents.lean ====
section
/-! DEFINITION. The events of the Render Engine, of the Output Channels and of the memory self test, one meaning for each
command. A command that is not enabled in the state it meets has no effect (log entry 5). -/
namespace Sys2Proof.Machine

/-- GRANT (R93, R94). -/
def execGrant (s : State) : Host.Outcome State Fault Refusal :=
  .next (s.event fun e => e.grant)

/-- JOB_COMPLETION (R96). -/
def execJobCompletion (s : State) : Host.Outcome State Fault Refusal :=
  .next (s.event fun e => e.jobCompletion)

/-- SEND_START (R123). -/
def execSendStart (l : Lane) (s : State) : Host.Outcome State Fault Refusal :=
  .next (s.event fun e => e.modChannel l Channel.startSend)

/-- OUTPUT_LINE_END (R124). -/
def execOutputLineEnd (l : Lane) (s : State) : Host.Outcome State Fault Refusal :=
  .next (s.event fun e => e.modChannel l Channel.endLine)

/-- RECORDER_READY_RISE (R124). -/
def execRecorderReadyRise (l : Lane) (s : State) : Host.Outcome State Fault Refusal :=
  .next (s.event fun e => e.modChannel l Channel.readyRise)

/-- RECORDER_READY_FALL (R124). -/
def execRecorderReadyFall (l : Lane) (s : State) : Host.Outcome State Fault Refusal :=
  .next (s.event fun e => e.modChannel l Channel.readyFall)

/-- SEND_COMPLETION (R125, R151, R152). -/
def execSendCompletion (l : Lane) (s : State) : Host.Outcome State Fault Refusal :=
  .next (s.event fun e => e.sendCompletion l)

/-- SELF_TEST_END (R48); refused when the failing unit is no unit of the part. -/
def execSelfTestEnd (unit : Option Nat) (s : State) : Host.Outcome State Fault Refusal :=
  if (Instr.selfTestEnd unit).wellFormed then .next (s.endSelfTest unit) else .refused .illFormed

end Sys2Proof.Machine
end

