-- ==== Sys2Proof/Machine/LaneEvents.lean ====
section
/-! DEFINITION. The events of the Ingest Lanes, of the completion chain and of the operation timers, one meaning for each
command. A command that is not enabled in the state it meets has no effect (log entry 5). -/
namespace Sys2Proof.Machine

/-- FIELD_START (R5, R6, R8 to R13, R37 to R39): with the chain of the lane's last field finished first (R34, log entry 7). -/
def execFieldStart (l : Lane) (p : Parity) (held : Bool) (s : State) : Host.Outcome State Fault Refusal :=
  .next (s.event fun e => e.fieldStart l p held)

/-- LINE_START (R7). -/
def execLineStart (l : Lane) (s : State) : Host.Outcome State Fault Refusal :=
  .next (s.event fun e => e.lineStart l)

/-- SAMPLE_WORD (R1, R7). -/
def execSampleWord (l : Lane) (v : Sample) (valid dropout : Bool) (s : State) : Host.Outcome State Fault Refusal :=
  .next (s.event fun e => e.sampleWord l v valid dropout)

/-- LABEL_WORD (R1). -/
def execLabelWord (l : Lane) (w : LabelWord) (s : State) : Host.Outcome State Fault Refusal :=
  .next (s.event fun e => e.labelWord l w)

/-- NO_SIGNAL_TIMER_EXPIRY (R12). -/
def execNoSignalTimerExpiry (l : Lane) (s : State) : Host.Outcome State Fault Refusal :=
  .next (s.event fun e => e.timerExpiry l)

/-- DROPOUT_REPAIR (R50). -/
def execDropoutRepair (l : Lane) (s : State) : Host.Outcome State Fault Refusal :=
  .next (s.event fun e => e.chainStage l .repair)

/-- LABEL_JUDGEMENT, with the join (R18, R42). -/
def execLabelJudgement (l : Lane) (s : State) : Host.Outcome State Fault Refusal :=
  .next (s.event fun e => e.chainStage l .label)

/-- CADENCE_MONITOR_EVENT (R63). -/
def execCadenceMonitorEvent (l : Lane) (s : State) : Host.Outcome State Fault Refusal :=
  .next (s.event fun e => e.chainStage l .monitor)

/-- FIELD_TAKEN (R85). -/
def execFieldTaken (l : Lane) (s : State) : Host.Outcome State Fault Refusal :=
  .next (s.event fun e => e.chainStage l .controller)

/-- WAIT_TIMER_EXPIRY (R139). -/
def execWaitTimerExpiry (l : Lane) (s : State) : Host.Outcome State Fault Refusal :=
  .next (s.event fun e => e.waitExpiry l)

/-- TEST_WINDOW_END (R158). -/
def execTestWindowEnd (l : Lane) (seen : SeenLevels) (s : State) : Host.Outcome State Fault Refusal :=
  .next (s.event fun e => e.windowEnd l seen)

end Sys2Proof.Machine
end

