-- ==== Sys2Proof/Machine/LinkEvents.lean ====
section
/-! DEFINITION. Power-on reset, the maintenance strap, and the events of the Control Link Interface, one meaning for each
command. A command that is not enabled in the state it meets has no effect (log entry 5). -/
namespace Sys2Proof.Machine

/-- POWER_ON_RESET (R178, R185). -/
def execPowerOnReset (s : State) : Host.Outcome State Fault Refusal :=
  .next s.powerOn

/-- STRAP_FALL (R184). -/
def execStrapFall (s : State) : Host.Outcome State Fault Refusal :=
  .next { s with dev := s.dev.strapFall }

/-- STRAP_RISE (R184). -/
def execStrapRise (s : State) : Host.Outcome State Fault Refusal :=
  .next { s with dev := s.dev.strapRise }

/-- SELECT_RISE (R160, R163, R174). -/
def execSelectRise (s : State) : Host.Outcome State Fault Refusal :=
  .next { s with link := s.link.selectRise }

/-- SELECT_FALL (R160). -/
def execSelectFall (s : State) : Host.Outcome State Fault Refusal :=
  .next { s with link := s.link.selectFall }

/-- RECORD_START_OUT (R172, R173). -/
def execRecordStartOut (s : State) : Host.Outcome State Fault Refusal :=
  .next { s with link := s.link.recordStart }

/-- FRAME_RECEIVED (R164): the byte time whose inbound byte is a frame's CHECK byte ends (log entry 14). -/
def execFrameReceived (b : Byte) (s : State) : Host.Outcome State Fault Refusal :=
  if s.link.awaitsCheck then .next (s.byteTimeEnd b) else .next s

/-- LENGTH_FORMAT_ERROR (R163): the byte time whose inbound byte is a LENGTH byte outside 2 to 250 ends (log entry 14). -/
def execLengthFormatError (b : Byte) (s : State) : Host.Outcome State Fault Refusal :=
  if s.link.badLength b then .next (s.byteTimeEnd b) else .next s

/-- RECORD_SENT (R172): the byte time that shifts out the CHECK byte of the record in flight ends (log entry 14). -/
def execRecordSent (b : Byte) (s : State) : Host.Outcome State Fault Refusal :=
  if s.link.sendingCheck then .next (s.byteTimeEnd b) else .next s

/-- BYTE_TIME_END (R160). -/
def execByteTimeEnd (b : Byte) (s : State) : Host.Outcome State Fault Refusal :=
  .next (s.byteTimeEnd b)

end Sys2Proof.Machine
end

