-- ==== Sys2Proof/Machine/RequestEvents.lean ====
section
/-! DEFINITION. The requests as the Request Handler takes them from the head of the request queue, one meaning for each
kind. A command whose kind is not at the head, or that the handler may not take, has no effect (R166, log entries 5 and
13). -/
namespace Sys2Proof.Machine

/-- STATUS (R186). -/
def execStatus (s : State) : Host.Outcome State Fault Refusal :=
  .next (s.request 0x01 (statusRequest s.link))

/-- CAPABILITIES (R187). -/
def execCapabilities (s : State) : Host.Outcome State Fault Refusal :=
  .next (s.request 0x02 capabilitiesRequest)

/-- INSPECT FIELD (R188). -/
def execInspectField (s : State) : Host.Outcome State Fault Refusal :=
  .next (s.request 0x03 inspectRequest)

/-- CONFIGURE LANE (R180, R181). -/
def execConfigureLane (s : State) : Host.Outcome State Fault Refusal :=
  .next (s.request 0x04 configureRequest)

/-- LOAD PROFILE (R109). -/
def execLoadProfile (s : State) : Host.Outcome State Fault Refusal :=
  .next (s.request 0x05 loadProfileRequest)

/-- SET NOTICES (R176). -/
def execSetNotices (s : State) : Host.Outcome State Fault Refusal :=
  .next (s.request 0x06 setNoticesRequest)

/-- SET ACCESS (R183). -/
def execSetAccess (s : State) : Host.Outcome State Fault Refusal :=
  .next (s.request 0x07 setAccessRequest)

/-- PARTITION (R36). -/
def execPartition (s : State) : Host.Outcome State Fault Refusal :=
  .next (s.request 0x08 partitionRequest)

/-- LOAD COEFFICIENTS (R113). -/
def execLoadCoefficients (s : State) : Host.Outcome State Fault Refusal :=
  .next (s.request 0x09 loadCoefficientsRequest)

/-- COEFFICIENT DATA (R114, R115). -/
def execCoefficientData (s : State) : Host.Outcome State Fault Refusal :=
  .next (s.request 0x0A coefficientDataRequest)

/-- SELF TEST (R47, R48). -/
def execSelfTest (s : State) : Host.Outcome State Fault Refusal :=
  .next s.selfTest

/-- RESET (R179). -/
def execReset (s : State) : Host.Outcome State Fault Refusal :=
  .next s.resetRequest

/-- ACQUIRE (R135, R136). -/
def execAcquire (s : State) : Host.Outcome State Fault Refusal :=
  .next (s.request 0x10 acquireRequest)

/-- RELEASE (R141). -/
def execRelease (s : State) : Host.Outcome State Fault Refusal :=
  .next (s.request 0x11 releaseRequest)

/-- CUE (R142). -/
def execCue (s : State) : Host.Outcome State Fault Refusal :=
  .next (s.request 0x12 cueRequest)

/-- TRANSFER (R145). -/
def execTransfer (s : State) : Host.Outcome State Fault Refusal :=
  .next (s.request 0x13 transferRequest)

/-- AMEND (R154). -/
def execAmend (s : State) : Host.Outcome State Fault Refusal :=
  .next (s.request 0x14 amendRequest)

/-- SCAN (R156). -/
def execScan (s : State) : Host.Outcome State Fault Refusal :=
  .next (s.request 0x15 scanRequest)

/-- PROBE (R157). -/
def execProbe (s : State) : Host.Outcome State Fault Refusal :=
  .next (s.request 0x16 probeRequest)

/-- LINE TEST (R158). -/
def execLineTest (s : State) : Host.Outcome State Fault Refusal :=
  .next (s.request 0x17 lineTestRequest)

/-- STOP (R140). -/
def execStop (s : State) : Host.Outcome State Fault Refusal :=
  .next (s.request 0x18 stopRequest)

/-- A request of a kind that is no request kind (R167). -/
def execUnknownKind (s : State) : Host.Outcome State Fault Refusal :=
  .next s.unknownKind

end Sys2Proof.Machine
end

