-- ==== Sys2Proof/Machine/Dispatch.lean ====
section
/-! DEFINITION. The meaning of every command: one arm for each, one direct call of its meaning. -/
namespace Sys2Proof.Machine

/-- What a command does to the machine, its queue aside. -/
def exec (i : Instr) (s : State) : Host.Outcome State Fault Refusal :=
  match i with
  | .powerOnReset => Sys2Proof.Machine.execPowerOnReset s
  | .strapFall => Sys2Proof.Machine.execStrapFall s
  | .fieldStart l p h => Sys2Proof.Machine.execFieldStart l p h s
  | .lineStart l => Sys2Proof.Machine.execLineStart l s
  | .sampleWord l v a d => Sys2Proof.Machine.execSampleWord l v a d s
  | .labelWord l w => Sys2Proof.Machine.execLabelWord l w s
  | .noSignalTimerExpiry l => Sys2Proof.Machine.execNoSignalTimerExpiry l s
  | .dropoutRepair l => Sys2Proof.Machine.execDropoutRepair l s
  | .labelJudgement l => Sys2Proof.Machine.execLabelJudgement l s
  | .cadenceMonitorEvent l => Sys2Proof.Machine.execCadenceMonitorEvent l s
  | .fieldTaken l => Sys2Proof.Machine.execFieldTaken l s
  | .waitTimerExpiry l => Sys2Proof.Machine.execWaitTimerExpiry l s
  | .testWindowEnd l seen => Sys2Proof.Machine.execTestWindowEnd l seen s
  | .grant => Sys2Proof.Machine.execGrant s
  | .jobCompletion => Sys2Proof.Machine.execJobCompletion s
  | .sendStart l => Sys2Proof.Machine.execSendStart l s
  | .outputLineEnd l => Sys2Proof.Machine.execOutputLineEnd l s
  | .recorderReadyRise l => Sys2Proof.Machine.execRecorderReadyRise l s
  | .sendCompletion l => Sys2Proof.Machine.execSendCompletion l s
  | .selfTestEnd u => Sys2Proof.Machine.execSelfTestEnd u s
  | .frameReceived b => Sys2Proof.Machine.execFrameReceived b s
  | .lengthFormatError b => Sys2Proof.Machine.execLengthFormatError b s
  | .selectRise => Sys2Proof.Machine.execSelectRise s
  | .recordStartOut => Sys2Proof.Machine.execRecordStartOut s
  | .recordSent b => Sys2Proof.Machine.execRecordSent b s
  | .status => Sys2Proof.Machine.execStatus s
  | .capabilities => Sys2Proof.Machine.execCapabilities s
  | .inspectField => Sys2Proof.Machine.execInspectField s
  | .configureLane => Sys2Proof.Machine.execConfigureLane s
  | .loadProfile => Sys2Proof.Machine.execLoadProfile s
  | .setNotices => Sys2Proof.Machine.execSetNotices s
  | .setAccess => Sys2Proof.Machine.execSetAccess s
  | .partition => Sys2Proof.Machine.execPartition s
  | .loadCoefficients => Sys2Proof.Machine.execLoadCoefficients s
  | .coefficientData => Sys2Proof.Machine.execCoefficientData s
  | .selfTest => Sys2Proof.Machine.execSelfTest s
  | .reset => Sys2Proof.Machine.execReset s
  | .acquire => Sys2Proof.Machine.execAcquire s
  | .release => Sys2Proof.Machine.execRelease s
  | .cue => Sys2Proof.Machine.execCue s
  | .transfer => Sys2Proof.Machine.execTransfer s
  | .amend => Sys2Proof.Machine.execAmend s
  | .scan => Sys2Proof.Machine.execScan s
  | .probe => Sys2Proof.Machine.execProbe s
  | .lineTest => Sys2Proof.Machine.execLineTest s
  | .stop => Sys2Proof.Machine.execStop s
  | .unknownKind => Sys2Proof.Machine.execUnknownKind s
  | .recorderReadyFall l => Sys2Proof.Machine.execRecorderReadyFall l s
  | .strapRise => Sys2Proof.Machine.execStrapRise s
  | .selectFall => Sys2Proof.Machine.execSelectFall s
  | .byteTimeEnd b => Sys2Proof.Machine.execByteTimeEnd b s

end Sys2Proof.Machine
end

