-- ==== Sys2Proof/Safety.lean ====
section
/-! DEFINITION. What a safe machine is: the laws of the device that every step keeps, and what a command may change. -/
namespace Sys2Proof.Machine

/-! ## Power-on values -/

/-- A lane at its power-on values, the level of the recorder's ready line left open (R17, R30, R49, R84, R128, R159,
Table 73). -/
def LaneUnit.atPowerOn (u : LaneUnit) : Prop :=
  u.settings = ⟨.s625, 0, .nonDrop, 1, 10, 256, 64, true, 4, 100, 50, .temporalFirst⟩ ∧
    u.ingest = ⟨.off, 0, 0, 0, false, none, none, none⟩ ∧ u.chain = none ∧ u.decoder = ⟨none, none, 0⟩ ∧
    u.monitor = ⟨.video, none, 0, #v[⟨0, 0⟩, ⟨1, 0⟩, ⟨0, 0⟩, ⟨1, 0⟩, ⟨2, 0⟩, ⟨3, 0⟩, ⟨4, 0⟩]⟩ ∧ u.quota = 24 ∧
    u.window = [] ∧ u.overrun = false ∧ u.op.state = .idle ∧ u.op.counts = ⟨0, 0, 0, 0, 0, 0, 0, 0⟩ ∧
    u.op.causes = [] ∧ u.op.endCause = none ∧ u.op.first = none ∧ u.op.last = none ∧ u.op.snapshot = none ∧
    u.op.waitTimer = false ∧ u.op.held = none ∧ u.op.lastTag = none ∧ u.op.jobs = [] ∧
    u.channel.buffers = #v[.free, .free] ∧ u.channel.queue = [] ∧ u.channel.send = .idle

/-- The machine at its power-on values, the levels of its inputs and the contents of the DRAM left open (R49, R99, R178,
R185). -/
def State.atPowerOn (s : State) : Prop :=
  (∀ l, (s.dev.lane l).atPowerOn) ∧ (∀ i, s.dev.slot i = ⟨.free, none, 0, none, none⟩) ∧
    s.dev.freeList = List.finRange 96 ∧ s.dev.engine = ⟨none, 3⟩ ∧ s.dev.handler.state = .free ∧
    s.dev.handler.access = .operator ∧ s.dev.handler.mask = ⟨true, true, true⟩ ∧
    (∀ n : Fin 8, s.dev.handler.profiles[n] = Profile.default) ∧
    (∀ n : Fin 4, s.dev.handler.filters[n] = FilterSet.linear) ∧ s.link.receiver = .hunt ∧ s.link.requests = [] ∧
    s.link.outbound = [⟨.ready, none⟩] ∧ s.link.inFlight = none ∧
    s.link.flags = ⟨false, false, false, false, false⟩ ∧ s.link.attention = true

/-- The value of a setting by its code, as its item carries it (Table 73, Table 77). -/
def Settings.value (x : Settings) : Nat → Nat
  | 1 => x.standard.code
  | 2 => x.dominance.val
  | 3 => x.tcMode.code
  | 4 => x.serviceLevel
  | 5 => x.lockCount
  | 6 => x.combThr
  | 7 => x.repeatThr
  | 8 => bitAt 0 x.cadenceEnable
  | 9 => x.lockIn
  | 10 => x.lockLimit
  | 11 => x.flywheelLimit
  | 12 => x.repair.code
  | _ => 0

/-! ## The outbound queue (R169) -/

/-- The COMPLETION records of lane `l` in the outbound queue. -/
def Link.completionsOf (k : Link) (l : Lane) : Nat := (k.outbound.filter fun r => r.message.isCompletionOf l).length

/-- At most 4 replies, at most 8 general notices, and at most one completion for each lane (R169, Table 69). -/
def Link.classesOk (k : Link) : Prop := k.replies ≤ 4 ∧ k.generals ≤ 8 ∧ ∀ l, k.completionsOf l ≤ 1

/-- A record in flight that no RESET has taken out of the queue is the queue's head (R172). -/
def Link.flightOk (k : Link) : Prop :=
  ∀ f, k.inFlight = some f → f.orphan = false → k.outbound.head? = some f.record

/-- A lane's held completion is its own (R134). -/
def Device.heldOk (d : Device) : Prop := ∀ l c, (d.lane l).op.held = some c → c.lane = l

/-- The law of the link: the classes of the outbound queue, the 4 entries of the request queue, the record in flight, the
place that a running self test keeps for its reply, and the held completions that wait for a place (R48, R134, R164,
R169). -/
def State.linkLaw (s : State) : Prop :=
  s.link.classesOk ∧ s.link.requests.length ≤ 4 ∧ s.link.flightOk ∧
    (s.dev.handler.state ≠ .free → s.link.replies ≤ 3) ∧ s.dev.heldOk

/-! ## Lanes -/

/-- The bounds of one lane's figures: 4 window members (R42), 32 pending jobs (R85), and the counters of Table 9. -/
def LaneUnit.boundsOk (u : LaneUnit) : Prop :=
  u.window.length ≤ 4 ∧ u.op.jobs.length ≤ 32 ∧ u.ingest.sequence ≤ 4294967295 ∧ u.ingest.goodRun ≤ 65535 ∧
    u.ingest.badRun ≤ 2

/-- Every lane keeps its bounds. -/
def State.laneLaw (s : State) : Prop := ∀ l, (s.dev.lane l).boundsOk

/-- The settings lie in the ranges of Table 73, and S625 does not stand with DROP (R19). -/
def Settings.ok (x : Settings) : Prop :=
  x.serviceLevel ≤ 3 ∧ 5 ≤ x.lockCount ∧ x.lockCount ≤ 60 ∧ x.combThr ≤ 16368 ∧ x.repeatThr ≤ 16368 ∧
    2 ≤ x.lockIn ∧ x.lockIn ≤ 16 ∧ 8 ≤ x.lockLimit ∧ x.lockLimit ≤ 1023 ∧ x.flywheelLimit ≤ 255 ∧
    ¬(x.standard = .s625 ∧ x.tcMode = .drop)

/-- The sum of the four quotas (R35). -/
def Device.quotaSum (d : Device) : Nat := (d.lane 0).quota + (d.lane 1).quota + (d.lane 2).quota + (d.lane 3).quota

/-- Every lane's settings lie in their ranges, every quota in 8 to 72, and the quotas sum to at most 96 (R35, Table 73). -/
def State.settingsLaw (s : State) : Prop :=
  (∀ l, (s.dev.lane l).settings.ok ∧ 8 ≤ (s.dev.lane l).quota ∧ (s.dev.lane l).quota ≤ 72) ∧ s.dev.quotaSum ≤ 96

/-- The Cadence Monitor's law (Table 28, R73 to R77): in VIDEO no film position and every run below lockCount; in a FILM
state a film position inside the pattern and no run above lockCount; mismatch run at most 2; positions inside their
patterns. -/
def Monitor.ok (m : Monitor) (lockCount : Nat) : Prop :=
  (∀ h : Fin 7, m.hyps[h].position < (hypPattern h).period) ∧ m.mismatch ≤ 2 ∧
    (m.tracker = .video → m.filmPos = none ∧ ∀ h : Fin 7, m.hyps[h].run < lockCount) ∧
    (m.tracker ≠ .video → (∃ p, m.filmPos = some p ∧ p < m.tracker.period) ∧ ∀ h : Fin 7, m.hyps[h].run ≤ lockCount)

/-- Every lane's Cadence Monitor keeps its law. -/
def State.monitorLaw (s : State) : Prop := ∀ l, (s.dev.lane l).monitor.ok (s.dev.lane l).settings.lockCount

/-- The Label Decoder's law: when the last judged field has an index, it is the last indexed field (R29). -/
def LabelDecoder.ok (dec : LabelDecoder) : Prop :=
  ∀ q ix, dec.lastJudged = some ⟨q, some ix⟩ → ∃ c, dec.lastIndexed = some ⟨q, ix, c⟩

/-- Every lane's Label Decoder keeps its law. -/
def State.decoderLaw (s : State) : Prop := ∀ l, (s.dev.lane l).decoder.ok

/-! ## The Field Store (R33) -/

/-- The free list holds no number twice and holds exactly the FREE slots; the slot of a lane's open field, and that of a
field in its chain that has not joined the window, are WRITING, owned by the lane, and two different slots. -/
def Device.freeListOk (d : Device) : Prop :=
  d.freeList.Nodup ∧ (∀ i, i ∈ d.freeList ↔ (d.slot i).state = .free) ∧
    (∀ l i, i ∈ (d.lane l).openSlot ++ (d.lane l).chainSlot → (d.slot i).state = .writing ∧ (d.slot i).owner = some l) ∧
    ∀ l i, i ∈ (d.lane l).openSlot → i ∉ (d.lane l).chainSlot

/-! ## References and quotas (R34, R35, R44) -/

/-- The references that lane `l`'s window and pending jobs hold on slot `i` (R44). -/
def LaneUnit.referencesOn (u : LaneUnit) (i : SlotId) : Nat :=
  u.window.count i + (u.op.jobs.flatMap Job.slots).count i

/-- The references that the running job holds on slot `i` (R44). -/
def Engine.referencesOn (e : Engine) (i : SlotId) : Nat := (e.running.map fun j => j.slots.count i).getD 0

/-- All references held on slot `i`: memberships and jobs (R32, R44). -/
def Device.referencesOn (d : Device) (i : SlotId) : Nat :=
  ((List.finRange 4).map fun l => (d.lane l).referencesOn i).sum + d.engine.referencesOn i

/-- A slot's entry agrees with its state: FREE it is empty; WRITING it has count 0 and is the slot of its owner's open field
or of a field of its owner in the chain; HELD its count is that of the references held on it, at least 1, and every lane
that holds one is its owner (R32, R34, R44). -/
def Device.slotOk (d : Device) (i : SlotId) : Prop :=
  ((d.slot i).state = .free → d.slot i = ⟨.free, none, 0, none, none⟩) ∧
    ((d.slot i).state = .writing →
      (d.slot i).refs = 0 ∧ ∃ l, (d.slot i).owner = some l ∧ i ∈ (d.lane l).openSlot ++ (d.lane l).chainSlot) ∧
    ((d.slot i).state = .held → (d.slot i).refs = d.referencesOn i ∧ 1 ≤ (d.slot i).refs) ∧
    ((d.slot i).state ≠ .held → d.referencesOn i = 0) ∧ ((d.slot i).state ≠ .free → (d.record i).isSome = true) ∧
    (∀ l, (d.lane l).referencesOn i ≠ 0 → (d.slot i).owner = some l) ∧
    ∀ j, d.engine.running = some j → j.slots.count i ≠ 0 → (d.slot i).owner = some j.lane

/-- A lane's part in the Field Store: only a LOCKED lane's open field holds a slot; a field that has joined and is still in
the chain is a member of the window; every pending job is the lane's own, at most one waits, and a waiting job lists no
next field; an OFF lane holds nothing; and the slots in use do not exceed the quota (R35, R42, R46, R87, R98). -/
def Device.storeLaneOk (d : Device) (l : Lane) : Prop :=
  (∀ f i, (d.lane l).ingest.openField = some f → f.slot = some i → (d.lane l).ingest.state = .locked) ∧
    (∀ i, (d.lane l).chain = some ⟨.monitor, i⟩ ∨ (d.lane l).chain = some ⟨.controller, i⟩ → i ∈ (d.lane l).window) ∧
    (∀ j ∈ (d.lane l).op.jobs, j.lane = l ∧ (j.state = .waitingNext → j.fieldNext = none)) ∧
    ((d.lane l).op.jobs.filter fun j => j.state = .waitingNext).length ≤ 1 ∧
    ((d.lane l).ingest.state = .off →
      (d.lane l).ingest.openField = none ∧ (d.lane l).chain = none ∧ (d.lane l).window = [] ∧ (d.lane l).op.jobs = [] ∧
        ∀ j, d.engine.running = some j → j.lane ≠ l) ∧
    d.slotsInUse l ≤ (d.lane l).quota

/-- The law of the Field Store: the free list, every slot's entry with its references, and every lane within its quota. -/
def Device.storeOk (d : Device) : Prop := d.freeListOk ∧ (∀ i, d.slotOk i) ∧ ∀ l, d.storeLaneOk l

/-- Every lane's slots in use lie within its quota (R35). -/
def Device.quotasOk (d : Device) : Prop := ∀ l, d.slotsInUse l ≤ (d.lane l).quota

/-! ## Frame buffers (R121, R122) -/

/-- The frames of a channel's queue stand in different buffers, each QUEUED or SENDING. -/
def Channel.queueOk (c : Channel) : Prop :=
  (c.queue.map Frame.buffer).Nodup ∧ ∀ f ∈ c.queue, c.buffers[f.buffer] = .queued ∨ c.buffers[f.buffer] = .sending

/-- The law of the frame buffers: every channel's queue is in order, a pending job is its own lane's, and the running job's
buffer is LENT. -/
def Device.buffersOk (d : Device) : Prop :=
  (∀ l, (d.lane l).channel.queueOk ∧ ∀ j ∈ (d.lane l).op.jobs, j.lane = l) ∧
    ∀ j b, d.engine.running = some j → j.buffer = some b → (d.lane j.lane).channel.buffers[b] = .lent

/-! ## What a command may change -/

/-- The lane an event belongs to, for the commands that are events of one lane. -/
def eventLane : Instr → Option Lane
  | .fieldStart l _ _ => some l
  | .lineStart l => some l
  | .sampleWord l _ _ _ => some l
  | .labelWord l _ => some l
  | .noSignalTimerExpiry l => some l
  | .dropoutRepair l => some l
  | .labelJudgement l => some l
  | .cadenceMonitorEvent l => some l
  | .fieldTaken l => some l
  | .waitTimerExpiry l => some l
  | .testWindowEnd l _ => some l
  | .sendStart l => some l
  | .outputLineEnd l => some l
  | .recorderReadyRise l => some l
  | .recorderReadyFall l => some l
  | .sendCompletion l => some l
  | _ => none

/-- Every lane but `l` is the same. -/
def Device.sameOutside (d e : Device) (l : Lane) : Prop := ∀ k, k ≠ l → e.lane k = d.lane k

/-- May the command write to the stacked DRAM, or make contents of it undefined? -/
def mayTouchDram : Instr → Bool
  | .powerOnReset => true
  | .fieldStart _ _ _ => true
  | .lineStart _ => true
  | .sampleWord _ _ _ _ => true
  | .dropoutRepair _ => true
  | .jobCompletion => true
  | .selfTestEnd _ => true
  | .selfTest => true
  | .reset => true
  | .release => true
  | .stop => true
  | _ => false

/-- Lane `l`'s operation has completed between two states with the record `c`: it is IDLE without snapshot or wait timer,
and the record has joined the outbound queue (R133, R134). -/
def State.completes (s t : State) (l : Lane) (c : Completion) : Prop :=
  (t.dev.lane l).op.state = .idle ∧ (t.dev.lane l).op.snapshot = none ∧ (t.dev.lane l).op.waitTimer = false ∧
    t.link = s.link.join (.notice (.completion c)) ∧ c.lane = l ∧ c.tag = (s.dev.lane l).op.tag

/-- As `completes`, for an event that issues other notices too: the record joins the outbound queue among them, or is held
while the lane's previous COMPLETION is there (R133, R134, R169). -/
def State.endsWith (s t : State) (l : Lane) (c : Completion) : Prop :=
  (t.dev.lane l).op.state = .idle ∧ (t.dev.lane l).op.snapshot = none ∧ (t.dev.lane l).op.waitTimer = false ∧
    (s.link.hasCompletion l = false →
      ∃ a b, t.link.outbound = s.link.outbound ++ a ++ ⟨.notice (.completion c), none⟩ :: b) ∧
    (s.link.hasCompletion l = true → (t.dev.lane l).op.held = some c) ∧ c.lane = l ∧ c.tag = (s.dev.lane l).op.tag

/-- Work of lane `l`'s transfer is outstanding: a job pending or running, or a frame of it in the channel (R152). -/
def Device.outstanding (d : Device) (l : Lane) : Prop :=
  (d.lane l).op.jobs ≠ [] ∨ (∃ j, d.engine.running = some j ∧ j.lane = l) ∨
    ∃ f ∈ (d.lane l).channel.queue, f.transferId = (d.lane l).op.transferId

/-- Lane `l`'s transfer has ended between two states by another way than STOP and RELEASE: its class and cause are
recorded, and it is DRAINING with work outstanding, or has completed with none (R133, R152). -/
def State.transferEnds (s t : State) (l : Lane) (p : TransferParams) (cls : EndClass) (cause : Option Cause) : Prop :=
  (t.dev.lane l).op.endClass = some cls ∧ (t.dev.lane l).op.endCause = cause ∧
    (∀ x, cause = some x → x ∈ (t.dev.lane l).op.causes) ∧
    (s.dev.outstanding l → (t.dev.lane l).op.state = .transfer .draining p) ∧
    (¬s.dev.outstanding l → ∃ c, s.endsWith t l c ∧ c.op = .transfer ∧ c.cls = cls ∧ c.cause = cause)

/-! ## Dropout repair, by its rules -/

/-- A span covers a position `first` to `last` of a line (R54). -/
def Span.meets (z : Span) (line first last : Nat) : Prop :=
  (z.kind = .rest ∧ z.line ≤ line) ∨ (z.kind ≠ .rest ∧ z.line = line ∧ z.first ≤ last ∧ first ≤ z.last)

/-- The temporal candidate of a unit of the field `r` of lane `l` is available (R54). -/
def Device.temporalClean (d : Device) (l : Lane) (r : FieldRecord) (u : RepairUnit) : Prop :=
  ∃ j rp, d.earlier l r.sequence 2 = some j ∧ d.record j = some rp ∧ rp.parity = r.parity ∧
    ∀ z ∈ rp.spans, z.outcome = .unrepaired ∨ z.outcome = .notAttempted → ¬z.meets u.line u.first u.last

/-- The spatial candidate of a unit is available, `own` being the field's list as handed on (R56). -/
def spatialClean (std : Standard) (own : List Span) (u : RepairUnit) : Prop :=
  u.line ≠ 0 ∧ u.line + 1 ≠ (match std with | .s625 => 288 | .s525 => 243) ∧
    ∀ z ∈ own, ¬z.meets (u.line - 1) u.first u.last ∧ ¬z.meets (u.line + 1) u.first u.last

/-- A unit's result by method and availability (Table 24). -/
def RepairMethod.gives (m : RepairMethod) (temporal spatial : Prop) (o : SpanOutcome) : Prop :=
  match m with
  | .off => o = .notAttempted
  | .temporalFirst =>
    (temporal ∧ o = .substituted) ∨ (¬temporal ∧ spatial ∧ o = .interpolated) ∨ (¬temporal ∧ ¬spatial ∧ o = .unrepaired)
  | .spatialFirst =>
    (spatial ∧ o = .interpolated) ∨ (¬spatial ∧ temporal ∧ o = .substituted) ∨ (¬temporal ∧ ¬spatial ∧ o = .unrepaired)

/-- What a unit's result writes into the slot `i` of its field, `n2` holding field n-2 (R55, R57, R58). -/
def RepairUnit.written (i : SlotId) (n2 : Option SlotId) (o : SpanOutcome) (u : RepairUnit) (m : Dram) : Dram :=
  match o, n2 with
  | .substituted, some j => substitute i j u m
  | .interpolated, _ => interpolate i u m
  | _, _ => m

/-! ## Requests -/

/-- A request of kind `kind` stands at the head of the request queue, the handler may take it, and its length is one that
the kind may have (R166, R167). -/
def State.takes (s : State) (kind : Nat) (r : Request) : Prop :=
  s.takeable = some r ∧ r.kind.toNat = kind ∧ lengthOk kind r.body = true

/-- The link after a request was taken and answered with `outcome` and `data`, in an event that issued no notice. -/
def Link.answered (k : Link) (r : Request) (outcome : ReplyOutcome) (clamped : Bool) (data : List Byte) : Link :=
  k.dequeue.join (.reply ⟨r.kind, r.tag, outcome, clamped, data⟩)

/-- The command that takes a request of a kind (R167, Table 86). -/
def commandOf : Nat → Instr
  | 0x01 => .status
  | 0x02 => .capabilities
  | 0x03 => .inspectField
  | 0x04 => .configureLane
  | 0x05 => .loadProfile
  | 0x06 => .setNotices
  | 0x07 => .setAccess
  | 0x08 => .partition
  | 0x09 => .loadCoefficients
  | 0x0A => .coefficientData
  | 0x0B => .selfTest
  | 0x0C => .reset
  | 0x10 => .acquire
  | 0x11 => .release
  | 0x12 => .cue
  | 0x13 => .transfer
  | 0x14 => .amend
  | 0x15 => .scan
  | 0x16 => .probe
  | 0x17 => .lineTest
  | 0x18 => .stop
  | _ => .unknownKind

/-- The requests as the commands of the Request Handler. -/
def isRequest : Instr → Bool
  | .status => true
  | .capabilities => true
  | .inspectField => true
  | .configureLane => true
  | .loadProfile => true
  | .setNotices => true
  | .setAccess => true
  | .partition => true
  | .loadCoefficients => true
  | .coefficientData => true
  | .selfTest => true
  | .reset => true
  | .acquire => true
  | .release => true
  | .cue => true
  | .transfer => true
  | .amend => true
  | .scan => true
  | .probe => true
  | .lineTest => true
  | .stop => true
  | .unknownKind => true
  | _ => false

end Sys2Proof.Machine
end

