-- ==== Sys2Proof/Certificates/Slice0/Obligations.lean ====
section
/-! DEFINITION. The statements for the provers: what the commands and the machine do, by the numbered rules. -/
section
open Sys2Proof Sys2Proof.Machine

/-! ## The machine as a whole -/

/-- One step at a state whose queue holds the command `c` in front runs exactly `c`, on the state with the queue's rest; on
an empty queue the block idles (the model's choice, log entry 1). -/
def Obligations.StepRunsFrontCommand : Prop :=
  (∀ (c : Instr) (rest : List Instr) (s : State),
    step { s with pending := c :: rest } = exec c { s with pending := rest }) ∧
    ∀ s : State, s.pending = [] → step s = .next s

/-- Every well-formed command answers a next state and leaves the queue of waiting commands alone; SELF_TEST_END with a
failing unit that is no unit of the part is refused, the one stop of the model (log entry 5). -/
def Obligations.WellFormedCommandsAnswerNext : Prop :=
  (∀ (c : Instr) (s : State), c.wellFormed = true → ∃ t, exec c s = .next t ∧ t.pending = s.pending) ∧
    ∀ (u : Nat) (s : State), (95 < u ∧ u < 100) ∨ 107 < u → exec (.selfTestEnd (some u)) s = .refused .illFormed

/-- `State.reset` and the state that POWER_ON_RESET leaves from any state hold the power-on values of every block, with
READY as the only record. The level of each recorder's ready line, of the strap and of select stay as they were, and every
container of the stacked DRAM reads as the free value of a new generation (log entries 3, 4 and 9). -/
def Obligations.PowerOnValues : Prop :=
  State.reset.atPowerOn ∧ State.reset.pending = [] ∧
    ∀ s : State, ∃ t, exec .powerOnReset s = .next t ∧ t.atPowerOn ∧ t.pending = s.pending ∧
      t.dev.strap = s.dev.strap ∧ t.link.selected = s.link.selected ∧
      (∀ l, (t.dev.lane l).channel.ready = (s.dev.lane l).channel.ready) ∧
      ∀ a, t.dev.dram.read a = Config.undefinedWord (s.dev.dram.gens[dramRegion a] + 1) a

/-- The machine right after reset keeps every law that the invariants below state. -/
def Obligations.ResetStateMeetsLaws : Prop :=
  State.reset.linkLaw ∧ State.reset.dev.dram.wf = true ∧ State.reset.laneLaw ∧ State.reset.settingsLaw ∧
    State.reset.monitorLaw ∧ State.reset.decoderLaw ∧ State.reset.dev.freeListOk ∧ State.reset.dev.buffersOk ∧ State.reset.dev.storeOk

/-- A RESET that is taken: every lane, the slot table, the free list and the engine take their reset values; the lane
settings, the quotas, the profiles, the filter sets and the notice mask are kept; the access level is OPERATOR; the link
holds the reply alone, with no flag and no request; a record whose START is out is sent on; the samples of the field slots
stay. The model's choices in it: a record of which no byte is out yet is gone (log entry 9); the samples of the field slots
are kept (log entry 3); a lane's reset value holds items whose reset the spec does not state, as the tag, the end class, the
jobs created, the seeking and the limit count (log entry 15) and the transfer's identity (log entry 6). -/
def Obligations.ResetRequestTakesResetValues : Prop :=
  ∀ (s : State) (r : Request), s.takes 0x0C r → ∃ t, exec .reset s = .next t ∧ t.pending = s.pending ∧
    (∀ l, t.dev.lane l =
      { LaneUnit.powerOn with
        settings := (s.dev.lane l).settings, quota := (s.dev.lane l).quota
        channel := { Channel.powerOn with ready := (s.dev.lane l).channel.ready } }) ∧
    (∀ i, t.dev.slot i = ⟨.free, none, 0, none, none⟩) ∧ t.dev.freeList = List.finRange 96 ∧
    t.dev.engine = ⟨none, 3⟩ ∧ t.dev.handler = { s.dev.handler with state := .free, access := .operator } ∧
    t.dev.strap = s.dev.strap ∧ t.link.outbound = [⟨.reply ⟨0x0C, r.tag, .done, false, []⟩, none⟩] ∧
    t.link.requests = [] ∧ t.link.flags = ⟨false, false, false, false, false⟩ ∧
    t.link.receiver = s.link.receiver ∧ t.link.selected = s.link.selected ∧
    (∀ f, s.link.inFlight = some f → f.count ≠ 0 → t.link.inFlight = some { f with orphan := true }) ∧
    (∀ f, s.link.inFlight = some f → f.count = 0 → t.link.inFlight = none) ∧
    (s.link.inFlight = none → t.link.inFlight = none) ∧
    ∀ a, dramRegion a = 0 → t.dev.dram.read a = s.dev.dram.read a

/-! ## Decoder signals -/

/-- An OFF lane ignores its decoder, but for a LINE TEST, which notes field-starts and words and nothing else: a
field-start with its parity, and the input seen high and low (log entry 10). -/
def Obligations.OffLaneIgnoresDecoder : Prop :=
  ∀ (s : State) (l : Lane), (s.dev.lane l).ingest.state = .off →
    exec (.lineStart l) s = .next s ∧ (∀ w, exec (.labelWord l w) s = .next s) ∧
    (∀ v d, exec (.sampleWord l v false d) s = .next s) ∧
    ((∀ w, (s.dev.lane l).op.state ≠ .lineTesting w) →
      (∀ p h, exec (.fieldStart l p h) s = .next s) ∧ ∀ v d, exec (.sampleWord l v true d) s = .next s) ∧
    ∀ w, (s.dev.lane l).op.state = .lineTesting w →
      (∀ p h, exec (.fieldStart l p h) s = .next { s with dev := s.dev.modLane l fun u =>
        { u with op := { u.op with
          state := .lineTesting
            ⟨w.sampleSeen, true, true, w.fieldStarts + 1, w.parity0Seen || decide (p = 0), w.parity1Seen || decide (p = 1)⟩ } } }) ∧
      ∀ v d, exec (.sampleWord l v true d) s = .next { s with dev := s.dev.modLane l fun u =>
        { u with op := { u.op with state := .lineTesting { w with sampleSeen := true } } } }

/-- A field-start of an enabled lane opens a field of the next sequence with the levels read at it, restarts the no-signal
timer, leaves the lane SEEKING or LOCKED and touches no other lane. At the top of the sequence counter the lane is enabled
anew and the field has sequence 1. -/
def Obligations.FieldStartOpensNextField : Prop :=
  ∀ (s : State) (l : Lane) (p : Parity) (h : Bool), (s.dev.lane l).ingest.state ≠ .off →
    ∃ t f, exec (.fieldStart l p h) s = .next t ∧ (t.dev.lane l).ingest.openField = some f ∧
      f.sequence = (t.dev.lane l).ingest.sequence ∧ f.parity = p ∧ f.held = h ∧ f.label = noLabel f.sequence ∧ f.lines = 0 ∧
      f.lineOpen = false ∧ f.malformed = false ∧ f.spans = [] ∧ (t.dev.lane l).ingest.timer = true ∧
      ((t.dev.lane l).ingest.state = .seeking ∨ (t.dev.lane l).ingest.state = .locked) ∧
      ((s.dev.lane l).ingest.sequence ≠ 4294967295 →
        (t.dev.lane l).ingest.sequence = (s.dev.lane l).ingest.sequence + 1) ∧
      ((s.dev.lane l).ingest.sequence = 4294967295 →
        (t.dev.lane l).ingest.sequence = 1 ∧ (t.dev.lane l).ingest.state = .seeking ∧
        (t.dev.lane l).ingest.goodRun = 0 ∧ (t.dev.lane l).ingest.badRun = 0 ∧
        (t.dev.lane l).ingest.prevParity = none ∧ (t.dev.lane l).ingest.lastStored = none ∧
        (t.dev.lane l).window = [] ∧ (t.dev.lane l).overrun = false ∧ (t.dev.lane l).decoder = ⟨none, none, 0⟩ ∧
        (t.dev.lane l).monitor = Monitor.reset) ∧
      s.dev.sameOutside t.dev l ∧ t.dev.handler = s.dev.handler ∧ t.dev.strap = s.dev.strap ∧ t.pending = s.pending

/-- What a field-start does to the lock and, through it, to the operation. A field closes well-formed when it has the
standard's lines, its malformed mark is clear, its current line has 1440 words and its parity is not the previous one. In
SEEKING a well-formed field raises good-run and locks the lane at lock-in, a malformed one clears it; in LOCKED a
well-formed field clears bad-run and raises good-run, a malformed one clears good-run and raises bad-run, and the second
one running takes the lane to SEEKING. With no field left in the lane's chain: a lock ends an ACQUIRE NORMAL; a field-start
that leaves the lane SEEKING raises the seeking count, and at the lock limit ends the ACQUIRE with LOCK_FAILED; a lock loss
ends CUE, SCAN, PROBE and an ARMED or RUNNING transfer SOURCE_CHANGE without cause, and leaves a DRAINING one. -/
def Obligations.FieldCloseMovesLock : Prop :=
  (∀ (s : State) (l : Lane) (p : Parity) (h : Bool) (f : OpenField) (g : IngestLane) (w : Bool),
    (s.dev.lane l).ingest = g → g.openField = some f → g.sequence ≠ 4294967295 →
    (w = true ↔ f.lines = (match (s.dev.lane l).settings.standard with | .s625 => 288 | .s525 => 243) ∧
      f.malformed = false ∧ (f.lineOpen = true → 1440 ≤ f.words) ∧ g.prevParity ≠ some f.parity) →
    g.state = .seeking ∨ g.state = .locked →
    ∃ t g', exec (.fieldStart l p h) s = .next t ∧ (t.dev.lane l).ingest = g' ∧ g'.prevParity = some f.parity ∧
      (g.state = .seeking → w = true → (s.dev.lane l).settings.lockIn ≤ g.goodRun + 1 →
        g'.state = .locked ∧ g'.goodRun = 0 ∧ g'.badRun = 0) ∧
      (g.state = .seeking → w = true → g.goodRun + 1 < (s.dev.lane l).settings.lockIn →
        g'.state = .seeking ∧ g'.goodRun = min 65535 (g.goodRun + 1)) ∧
      (g.state = .seeking → w = false → g'.state = .seeking ∧ g'.goodRun = 0) ∧
      (g.state = .locked → w = true →
        g'.state = .locked ∧ g'.badRun = 0 ∧ g'.goodRun = min 65535 (g.goodRun + 1)) ∧
      (g.state = .locked → w = false → g.badRun + 1 < 2 →
        g'.state = .locked ∧ g'.goodRun = 0 ∧ g'.badRun = g.badRun + 1) ∧
      (g.state = .locked → w = false → 2 ≤ g.badRun + 1 → g'.state = .seeking ∧ g'.goodRun = 0 ∧ g'.badRun = 0)) ∧
    ∀ (s : State) (l : Lane) (p : Parity) (h : Bool) (op : Controller), (s.dev.lane l).chain = none →
      (s.dev.lane l).op = op → ∃ t, exec (.fieldStart l p h) s = .next t ∧
      (∀ n, op.state = .acquiring n → (s.dev.lane l).ingest.state = .seeking → (t.dev.lane l).ingest.state = .locked →
        ∃ c, s.endsWith t l c ∧ c.op = .acquire ∧ c.cls = .normal ∧ c.cause = none ∧ c.counts = op.counts) ∧
      (∀ n, op.state = .acquiring n → (s.dev.lane l).ingest.state = .seeking ∨ (s.dev.lane l).ingest.state = .noSignal →
        (s.dev.lane l).ingest.sequence ≠ 4294967295 → (t.dev.lane l).ingest.state = .seeking →
        (op.seekingCount + 1 < (s.dev.lane l).settings.lockLimit →
          (t.dev.lane l).op = { op with seekingCount := op.seekingCount + 1 }) ∧
        ((s.dev.lane l).settings.lockLimit ≤ op.seekingCount + 1 →
          ∃ c, s.endsWith t l c ∧ c.op = .acquire ∧ c.cls = .abnormal ∧ c.cause = some .lockFailed ∧
            c.counts = op.counts)) ∧
      ((s.dev.lane l).ingest.state = .locked → (t.dev.lane l).ingest.state ≠ .locked →
        (op.state.kind = .cue ∨ op.state.kind = .scan ∨ op.state.kind = .probe ∨
            (∃ x, op.state = .transfer .armed x) →
          ∃ c, s.endsWith t l c ∧ c.op = op.state.kind ∧ c.cls = .sourceChange ∧ c.cause = none ∧
            c.counts = op.counts ∧ c.part = .nothing) ∧
        (∀ x, op.state = .transfer .running x → s.transferEnds t l x .sourceChange none) ∧
        ∀ x, op.state = .transfer .draining x →
          (t.dev.lane l).op.state = op.state ∧ (t.dev.lane l).op.endClass = op.endClass ∧
            (t.dev.lane l).op.endCause = op.endCause)

/-- What becomes of a LOCKED lane's open field at the next field-start, with no field left in the chain. Without a slot it
was dropped: the drop is a discontinuity. With the previous parity it is discarded: its slot is FREE, a discontinuity too.
A discontinuity resets the tracker, with a CADENCE notice where it was in FILM, and leaves no job waiting. Else the field
is kept: its missing words and lines are black and stand in its list as flagged, its record carries its marks, it is the
last stored and goes to the Dropout Compensator, and a waiting job waits on for it even where the lock is lost. At the top
of the sequence counter no field is kept. -/
def Obligations.LockedFieldIsKeptOrDiscarded : Prop :=
  ∀ (s : State) (l : Lane) (p : Parity) (h : Bool) (g : IngestLane) (f : OpenField) (lines : Nat),
    (s.dev.lane l).ingest = g → g.state = .locked → g.openField = some f → (s.dev.lane l).chain = none →
    lines = (match (s.dev.lane l).settings.standard with | .s625 => 288 | .s525 => 243) →
    ∃ t, exec (.fieldStart l p h) s = .next t ∧
      (f.slot = none ∨ g.prevParity = some f.parity ∨ g.sequence = 4294967295 →
        (t.dev.lane l).chain = none ∧ ∀ j ∈ (t.dev.lane l).op.jobs, j.state ≠ .waitingNext) ∧
      (g.sequence ≠ 4294967295 → f.slot = none ∨ g.prevParity = some f.parity →
        (t.dev.lane l).ingest.lastStored = g.lastStored ∧
        (t.dev.lane l).monitor = (s.dev.lane l).monitor.resetTracker ∧
        ((s.dev.lane l).monitor.tracker ≠ .video → s.dev.handler.mask.cadence = true → s.link.generals < 7 →
          ∃ a b, t.link.outbound =
            s.link.outbound ++ a ++ ⟨.notice (.cadence l .video none f.sequence), none⟩ :: b)) ∧
      (f.slot = none → t.dev.dram = s.dev.dram) ∧
      (∀ i, f.slot = some i → (s.dev.slot i).state = .writing → i ∉ s.dev.freeList →
        (g.sequence = 4294967295 ∨ (g.prevParity = some f.parity ∧ s.dev.freeList ≠ [])) →
        t.dev.slot i = ⟨.free, none, 0, none, none⟩ ∧ i ∈ t.dev.freeList) ∧
      ∀ i, f.slot = some i → g.prevParity ≠ some f.parity → g.sequence ≠ 4294967295 → i ∉ s.dev.freeList →
        ∃ r closed, (t.dev.lane l).chain = some ⟨.repair, i⟩ ∧
          t.dev.slot i = { s.dev.slot i with record := (s.dev.slot i).record.map fun _ => r } ∧
          closed = (if f.lineOpen = true ∧ f.lines - 1 < lines
            then buildLine (f.lines - 1) (f.flagged ++ List.range' f.words (1440 - f.words)) f.spans else f.spans) ∧
          r = { FieldRecord.fresh f.sequence f.parity f.held with
            malformed := f.malformed || (f.lineOpen && decide (f.words < 1440)) || decide (f.lines ≠ lines)
            discontinuity := (match g.lastStored with | none => true | some q => decide (q + 1 ≠ f.sequence))
            label := f.label
            spans := (List.range' f.lines (lines - f.lines)).foldl (fun x y => buildLine y (List.range 1440) x) closed } ∧
          (∀ y w, w < 1440 →
            (f.lines ≤ y ∧ y < lines) ∨ (f.lineOpen = true ∧ y = f.lines - 1 ∧ y < lines ∧ f.words ≤ w) →
            t.dev.dram.read (fieldAddr i y w) = if w % 2 = 1 then 64 else 512) ∧
          (∀ a, (∀ y w, w < 1440 →
              (f.lines ≤ y ∧ y < lines) ∨ (f.lineOpen = true ∧ y = f.lines - 1 ∧ y < lines ∧ f.words ≤ w) →
              a ≠ fieldAddr i y w) → t.dev.dram.read a = s.dev.dram.read a) ∧
          (t.dev.lane l).ingest.lastStored = some f.sequence ∧
          (t.dev.lane l).monitor = (s.dev.lane l).monitor ∧
          ((t.dev.lane l).ingest.state = .locked → (t.dev.lane l).op.jobs = (s.dev.lane l).op.jobs) ∧
          ((t.dev.lane l).ingest.state ≠ .locked → ∀ j, s.dev.waitingJob l = some j →
            (j.sequence + 1 = f.sequence → (t.dev.lane l).op.jobs = (s.dev.lane l).op.jobs) ∧
            (j.sequence + 1 ≠ f.sequence → ∀ k ∈ (t.dev.lane l).op.jobs, k.state ≠ .waitingNext))

/-- At an intake the field takes the head of the free list when the lane is below its quota with fewer than 32 jobs
pending, which ends an overrun episode; else it is dropped: no slot changes, the drop counts for a running operation and
is observed, STOP_ON_OVERRUN ends a RUNNING transfer at it, and an OVERRUN notice is issued exactly when no episode was
open. A field-start that leaves the lane LOCKED asks so for a slot for the field it opens, after the slot of a field it
discards is free; one that leaves the lane in another state asks for none. -/
def Obligations.IntakeTakesHeadSlotOrDrops : Prop :=
  (∀ (e : Ev) (l : Lane) (q : Nat) (p : Parity) (h : Bool),
    (∀ i rest, e.dev.freeList = i :: rest → e.dev.slotsInUse l < (e.dev.lane l).quota →
      (e.dev.lane l).op.jobs.length < 32 →
      (e.intake l q p h).notes = e.notes ∧ (e.intake l q p h).dev.freeList = rest ∧
      (e.intake l q p h).dev.slot i = ⟨.writing, some l, 0, some q, some (FieldRecord.fresh q p h)⟩ ∧
      (∀ k, k ≠ i → (e.intake l q p h).dev.slot k = e.dev.slot k) ∧
      ((e.intake l q p h).dev.lane l).overrun = false ∧
      ((e.intake l q p h).dev.lane l).ingest =
        { (e.dev.lane l).ingest with
          openField := (e.dev.lane l).ingest.openField.map fun f => { f with slot := some i } }) ∧
    ((e.dev.lane l).quota ≤ e.dev.slotsInUse l ∨ 32 ≤ (e.dev.lane l).op.jobs.length →
      (e.intake l q p h).dev.slots = e.dev.slots ∧ (e.intake l q p h).dev.freeList = e.dev.freeList ∧
      (e.intake l q p h).dev.dram = e.dev.dram ∧ ((e.intake l q p h).dev.lane l).ingest = (e.dev.lane l).ingest ∧
      ((e.intake l q p h).dev.lane l).overrun = true ∧
      ((e.dev.lane l).op.state ≠ .idle → ((e.intake l q p h).dev.lane l).op.counts.fieldsDropped =
          min 4294967295 ((e.dev.lane l).op.counts.fieldsDropped + 1) ∧
        .overrun ∈ ((e.intake l q p h).dev.lane l).op.causes) ∧
      (∀ x, (e.dev.lane l).op.state = .transfer .running x → x.stopOnOverrun = true →
        ((e.intake l q p h).dev.lane l).op.endClass = some .abnormal ∧
        ((e.intake l q p h).dev.lane l).op.endCause = some .overrun ∧
        (e.dev.outstanding l → ((e.intake l q p h).dev.lane l).op.state = .transfer .draining x)) ∧
      (∀ x, (e.dev.lane l).op.state = .transfer .running x → x.stopOnOverrun = false →
        ((e.intake l q p h).dev.lane l).op.state = .transfer .running x) ∧
      ∃ more, (e.intake l q p h).notes = e.notes ++ more ∧
        (Notice.overrun l q ∈ more ↔ (e.dev.lane l).overrun = false))) ∧
    ∀ (s : State) (l : Lane) (p : Parity) (h : Bool) (g : IngestLane) (d : Device), (s.dev.lane l).ingest = g →
      g.state ≠ .off → (s.dev.lane l).chain = none →
      d = (match g.state, g.openField.bind OpenField.slot with
        | .locked, some i => if g.prevParity = g.openField.map OpenField.parity then s.dev.giveBack [] [i] else s.dev
        | _, _ => s.dev) →
      ∃ t f, exec (.fieldStart l p h) s = .next t ∧ (t.dev.lane l).ingest.openField = some f ∧
        ((t.dev.lane l).ingest.state ≠ .locked →
          f.slot = none ∧ ∃ more, t.dev.freeList = s.dev.freeList ++ more) ∧
        ((t.dev.lane l).ingest.state = .locked →
          (∀ i rest, d.freeList = i :: rest → d.slotsInUse l < (s.dev.lane l).quota →
            (s.dev.lane l).op.jobs.length < 32 →
            f.slot = some i ∧ t.dev.freeList = rest ∧ (t.dev.lane l).overrun = false ∧
            t.dev.slot i = ⟨.writing, some l, 0, some f.sequence, some (FieldRecord.fresh f.sequence p h)⟩) ∧
          ((s.dev.lane l).quota ≤ d.slotsInUse l ∨ 32 ≤ (s.dev.lane l).op.jobs.length →
            f.slot = none ∧ t.dev.freeList = d.freeList ∧ (t.dev.lane l).overrun = true ∧
            (g.state = .locked → (s.dev.lane l).op.state ≠ .idle → (t.dev.lane l).op.counts.fieldsDropped =
              min 4294967295 ((s.dev.lane l).op.counts.fieldsDropped + 1))))

/-- A line-start closes the current line of the open field and opens the next. A short line sets the malformed mark, and in
a field with a slot its missing words read black, and the run builder takes the line's flagged words and the missing ones
(what it makes of them is said in DropoutListStaysBounded); a line beyond the standard's count sets the mark. Nothing else of the
machine changes, and every other container reads as before. -/
def Obligations.LineStartOpensNextLine : Prop :=
  ∀ (s : State) (l : Lane), (s.dev.lane l).ingest.state ≠ .off →
    ((s.dev.lane l).ingest.openField = none → exec (.lineStart l) s = .next s) ∧
    ∀ f, (s.dev.lane l).ingest.openField = some f → ∃ t g, exec (.lineStart l) s = .next t ∧
      t.dev.lane l =
        { s.dev.lane l with ingest := { (s.dev.lane l).ingest with openField := some g } } ∧
      g.lines = f.lines + 1 ∧ g.lineOpen = true ∧ g.words = 0 ∧ g.flagged = [] ∧ g.sequence = f.sequence ∧
      g.parity = f.parity ∧ g.held = f.held ∧ g.label = f.label ∧ g.slot = f.slot ∧
      g.malformed = (f.malformed || (f.lineOpen && decide (f.words < 1440)) ||
        decide ((s.dev.lane l).settings.standard.lines ≤ f.lines)) ∧
      (∀ i, f.slot = some i → f.lineOpen = true → f.lines - 1 < (s.dev.lane l).settings.standard.lines →
        g.spans = buildLine (f.lines - 1) (f.flagged ++ List.range' f.words (1440 - f.words)) f.spans) ∧
      (f.lineOpen = false ∨ f.slot = none ∨ (s.dev.lane l).settings.standard.lines ≤ f.lines - 1 →
        g.spans = f.spans) ∧
      (∀ i w, f.slot = some i → f.lineOpen = true → f.lines - 1 < (s.dev.lane l).settings.standard.lines →
        f.words ≤ w → w < 1440 →
        t.dev.dram.read (fieldAddr i (f.lines - 1) w) = if w % 2 = 1 then 64 else 512) ∧
      (∀ a, (∀ i w, f.slot = some i → f.lineOpen = true → f.lines - 1 < (s.dev.lane l).settings.standard.lines →
        f.words ≤ w → w < 1440 → a ≠ fieldAddr i (f.lines - 1) w) → t.dev.dram.read a = s.dev.dram.read a) ∧
      s.dev.sameOutside t.dev l ∧ t.dev.slots = s.dev.slots ∧ t.dev.freeList = s.dev.freeList ∧
      t.dev.engine = s.dev.engine ∧ t.dev.handler = s.dev.handler ∧ t.dev.strap = s.dev.strap ∧ t.link = s.link ∧
      t.pending = s.pending

/-- Words and labels of an enabled lane with the open field `f`. A word with sample-valid low, and a word while no line is
open, change nothing. A word of an open line is counted; in a field with a slot it is written at its line and word
position, its dropout flag kept, and every other container reads as before. An excess word, or a word of an excess line,
is discarded and sets the malformed mark. A label word replaces the field's label, and without an open field it is
lost. -/
def Obligations.WordsAndLabelsAreTaken : Prop :=
  ∀ (s : State) (l : Lane), (s.dev.lane l).ingest.state ≠ .off →
    (∀ v d, exec (.sampleWord l v false d) s = .next s) ∧
    ((s.dev.lane l).ingest.openField = none →
      (∀ v d, exec (.sampleWord l v true d) s = .next s) ∧ ∀ w, exec (.labelWord l w) s = .next s) ∧
    ∀ f, (s.dev.lane l).ingest.openField = some f →
      (∀ w, exec (.labelWord l w) s = .next { s with dev := s.dev.modLane l fun u =>
        { u with ingest := { u.ingest with openField := some { f with label := w } } } }) ∧
      (f.lineOpen = false → ∀ v d, exec (.sampleWord l v true d) s = .next s) ∧
      (f.lineOpen = true → (s.dev.lane l).settings.standard.lines < f.lines ∨ 1440 ≤ f.words → ∀ v d,
        exec (.sampleWord l v true d) s = .next { s with dev := s.dev.modLane l fun u =>
          { u with ingest := { u.ingest with
            openField := some { f with words := min 1440 (f.words + 1), malformed := true } } } }) ∧
      (f.lineOpen = true → f.lines ≤ (s.dev.lane l).settings.standard.lines → f.words < 1440 → f.slot = none → ∀ v d,
        exec (.sampleWord l v true d) s = .next { s with dev := s.dev.modLane l fun u =>
          { u with ingest := { u.ingest with openField := some { f with words := f.words + 1 } } } }) ∧
      ∀ i, f.lineOpen = true → f.lines ≤ (s.dev.lane l).settings.standard.lines → f.words < 1440 → f.slot = some i →
        ∀ v d, ∃ t, exec (.sampleWord l v true d) s = .next t ∧
          t.dev.lane l = { s.dev.lane l with ingest := { (s.dev.lane l).ingest with
            openField := some { f with words := f.words + 1, flagged := f.flagged ++ if d then [f.words] else [] } } } ∧
          t.dev.dram.read (fieldAddr i (f.lines - 1) f.words) = v ∧
          (∀ a, a ≠ fieldAddr i (f.lines - 1) f.words → t.dev.dram.read a = s.dev.dram.read a) ∧
          s.dev.sameOutside t.dev l ∧ t.dev.slots = s.dev.slots ∧ t.dev.freeList = s.dev.freeList ∧
          t.dev.engine = s.dev.engine ∧ t.dev.handler = s.dev.handler ∧ t.link = s.link ∧ t.pending = s.pending

/-- The no-signal timer's expiry in SEEKING or LOCKED: the lane is NO_SIGNAL with its runs cleared and no open field, a
LOCK notice with the last sequence joins first where one can join, and the abandoned field's WRITING slot is FREE at the
tail of the free list. An ACQUIRE observes NO_SIGNAL and goes on; from LOCKED, CUE, SCAN, PROBE and an ARMED or RUNNING
transfer end SOURCE_CHANGE with NO_SIGNAL, a DRAINING one observes it, and no job waits on. While the timer does not run,
and in OFF and NO_SIGNAL, the command does nothing (the model's choice, log entry 5). -/
def Obligations.TimerExpiryLosesSignal : Prop :=
  ∀ (s : State) (l : Lane) (g : IngestLane), (s.dev.lane l).ingest = g →
    ((g.timer = false ∨ g.state = .off ∨ g.state = .noSignal) → exec (.noSignalTimerExpiry l) s = .next s) ∧
    (g.timer = true → g.state = .seeking ∨ g.state = .locked → ∃ t, exec (.noSignalTimerExpiry l) s = .next t ∧
      (t.dev.lane l).ingest =
        { g with
          state := .noSignal, goodRun := 0, badRun := 0, timer := false, prevParity := none, openField := none } ∧
      (s.dev.handler.mask.lock = true → s.link.generals < 8 →
        ∃ more, t.link.outbound = s.link.outbound ++ ⟨.notice (.lock l .noSignal g.sequence), none⟩ :: more) ∧
      (∀ f i, g.openField = some f → f.slot = some i → (s.dev.slot i).state = .writing →
        t.dev.slot i = ⟨.free, none, 0, none, none⟩ ∧ t.dev.freeList = s.dev.freeList ++ [i] ∧
        ∀ k, k ≠ i → t.dev.slot k = s.dev.slot k) ∧
      ((∀ f, g.openField = some f → f.slot = none) → t.dev.slots = s.dev.slots ∧ t.dev.freeList = s.dev.freeList) ∧
      (∀ n, (s.dev.lane l).op.state = .acquiring n → g.state = .seeking → (t.dev.lane l).op =
        { (s.dev.lane l).op with causes := insertCause .noSignal (s.dev.lane l).op.causes }) ∧
      (g.state = .locked →
        (∀ j ∈ (t.dev.lane l).op.jobs, j.state ≠ .waitingNext) ∧
        ((s.dev.lane l).op.state.kind = .cue ∨ (s.dev.lane l).op.state.kind = .scan ∨
            (s.dev.lane l).op.state.kind = .probe ∨ (∃ x, (s.dev.lane l).op.state = .transfer .armed x) →
          ∃ c, s.endsWith t l c ∧ c.op = (s.dev.lane l).op.state.kind ∧ c.cls = .sourceChange ∧
            c.cause = some .noSignal ∧ .noSignal ∈ c.causes ∧ c.counts = (s.dev.lane l).op.counts) ∧
        (∀ x, (s.dev.lane l).op.state = .transfer .running x → s.transferEnds t l x .sourceChange (some .noSignal)) ∧
        ∀ x, (s.dev.lane l).op.state = .transfer .draining x → (t.dev.lane l).op.state = .transfer .draining x ∧
          (t.dev.lane l).op.endCause = (s.dev.lane l).op.endCause ∧ .noSignal ∈ (t.dev.lane l).op.causes) ∧
      (t.dev.lane l).window = (s.dev.lane l).window ∧ (t.dev.lane l).decoder = (s.dev.lane l).decoder ∧
      (t.dev.lane l).monitor = (s.dev.lane l).monitor ∧ t.dev.dram = s.dev.dram ∧ s.dev.sameOutside t.dev l ∧
      t.dev.handler = s.dev.handler ∧ t.pending = s.pending)

/-- The run builder at the close of a line. A luma position is flagged when its own word or a chroma word of its pair is.
The line's runs start and end at flagged positions, hold all of them, pass over at most 3 unflagged ones in a row and lie
further apart than that; one from 0 to 719 is a LINE span. They join a list that ends in no REST span while it stays
within 32; past that the first 31 stay and the 32nd becomes a REST span on its own line; a REST span takes all. So the list
keeps its bounds: at most 32 spans, at most one REST span and that the last, positions in range. -/
def Obligations.DropoutListStaysBounded : Prop :=
  ∀ (line : Nat) (flagged : List Nat) (spans : List Span) (flag : Nat → Prop), spans.length ≤ 32 →
    (∀ x ∈ spans.dropLast, x.kind ≠ .rest) →
    (∀ x ∈ spans, x.line < line ∧ x.first ≤ x.last ∧ x.last ≤ 719 ∧ x.outcome = .notAttempted) →
    (∀ p, flag p ↔
      p ≤ 719 ∧ (2 * p + 1 ∈ flagged ∨ 4 * (p / 2) ∈ flagged ∨ 4 * (p / 2) + 2 ∈ flagged)) →
    ((buildLine line flagged spans).length ≤ 32 ∧ (∀ x ∈ (buildLine line flagged spans).dropLast, x.kind ≠ .rest) ∧
      ∀ x ∈ buildLine line flagged spans,
        x.line ≤ line ∧ x.first ≤ x.last ∧ x.last ≤ 719 ∧ x.outcome = .notAttempted) ∧
    ∃ runs : List Span,
      (∀ x ∈ runs, x.line = line ∧ x.outcome = .notAttempted ∧ flag x.first ∧ flag x.last ∧ x.first ≤ x.last ∧
        x.kind = (if x.first = 0 ∧ x.last = 719 then .line else .run) ∧
        (∀ p, flag p → x.first ≤ p → p < x.last → ∃ q, flag q ∧ p < q ∧ q ≤ p + 4 ∧ q ≤ x.last) ∧
        (∀ p, flag p → p < x.first → p + 4 < x.first) ∧ ∀ p, flag p → x.last < p → x.last + 4 < p) ∧
      (∀ p, flag p → ∃ x ∈ runs, x.first ≤ p ∧ p ≤ x.last) ∧ (runs.Pairwise fun x y => x.last < y.first) ∧
      ((∃ x, spans.getLast? = some x ∧ x.kind = .rest) → buildLine line flagged spans = spans) ∧
      ((∀ x, spans.getLast? = some x → x.kind ≠ .rest) →
        (spans.length + runs.length ≤ 32 → buildLine line flagged spans = spans ++ runs) ∧
        ∀ z, (spans ++ runs)[31]? = some z → 32 < spans.length + runs.length →
          buildLine line flagged spans = (spans ++ runs).take 31 ++ [⟨z.line, 0, 719, .rest, .notAttempted⟩])

/-! ## The completion chain -/

/-- The Compensator's event for the field in slot `i`. Under a method other than OFF each unit gets the result that Table 24
gives it from the two candidates (R54, R56); the units are written in list order, each as its result says, and a span's
outcome is the worst of its units'. Only the outcomes and the three counts of the record change, the counts add to a
running operation, the chain goes on to the Label Decoder, and only words of the field's own units can change. Under OFF no
container changes and no outcome, and a list handed on as R13 gives it has no count. -/
def Obligations.DropoutRepairWritesItsUnits : Prop :=
  ∀ (s : State) (l : Lane) (i : SlotId) (r : FieldRecord) (set : Settings), (s.dev.lane l).chain = some ⟨.repair, i⟩ →
    s.dev.record i = some r → (s.dev.lane l).settings = set → ∃ (t : State) (x : List Span) (res : RepairUnit → SpanOutcome),
    exec (.dropoutRepair l) s = .next t ∧
      (∀ u, set.repair.gives (s.dev.temporalClean l r u) (spatialClean set.standard r.spans u) (res u)) ∧
      t.dev.dram = (r.spans.flatMap fun y => y.units set.standard).foldl
        (fun m u => u.written i (s.dev.earlier l r.sequence 2) (res u) m) s.dev.dram ∧
      (set.repair ≠ .off → ∀ (k : Nat) (y z : Span), r.spans[k]? = some y → x[k]? = some z →
        ((∃ u ∈ y.units set.standard, res u = .unrepaired) → z.outcome = .unrepaired) ∧
        ((∀ u ∈ y.units set.standard, res u ≠ .unrepaired) → (∃ u ∈ y.units set.standard, res u = .interpolated) →
          z.outcome = .interpolated) ∧
        (y.units set.standard ≠ [] → (∀ u ∈ y.units set.standard, res u = .substituted) → z.outcome = .substituted)) ∧
      t.dev.slot i = { s.dev.slot i with
        record := some { r with
          spans := x, substituted := countOutcome .substituted x, interpolated := countOutcome .interpolated x
          unrepaired := countOutcome .unrepaired x } } ∧
      (x.map fun y => { y with outcome := .notAttempted }) = (r.spans.map fun y => { y with outcome := .notAttempted }) ∧
      (t.dev.lane l).chain = some ⟨.label, i⟩ ∧
      ((s.dev.lane l).op.state = .idle → (t.dev.lane l).op = (s.dev.lane l).op) ∧
      ((s.dev.lane l).op.state ≠ .idle → (t.dev.lane l).op = { (s.dev.lane l).op with
        counts := { (s.dev.lane l).op.counts with
          substituted := min 4294967295 ((s.dev.lane l).op.counts.substituted + countOutcome .substituted x)
          interpolated := min 4294967295 ((s.dev.lane l).op.counts.interpolated + countOutcome .interpolated x)
          unrepaired := min 4294967295 ((s.dev.lane l).op.counts.unrepaired + countOutcome .unrepaired x) } }) ∧
      (∀ a, (∀ y ∈ r.spans, ∀ u ∈ y.units set.standard, ∀ w ∈ u.words, a ≠ fieldAddr i u.line w) →
        t.dev.dram.read a = s.dev.dram.read a) ∧
      (set.repair = .off → x = r.spans ∧ t.dev.dram = s.dev.dram ∧
        ((∀ y ∈ r.spans, y.outcome = .notAttempted) →
          countOutcome .substituted x = 0 ∧ countOutcome .interpolated x = 0 ∧ countOutcome .unrepaired x = 0)) ∧
      (∀ k, k ≠ i → t.dev.slot k = s.dev.slot k) ∧ t.dev.freeList = s.dev.freeList ∧ s.dev.sameOutside t.dev l ∧
      (t.dev.lane l).window = (s.dev.lane l).window ∧ t.dev.handler = s.dev.handler ∧ t.dev.engine = s.dev.engine ∧
      t.link = s.link ∧ t.pending = s.pending

/-- The units of a span: a RUN its line from first to last, a LINE its whole line, a REST every line from its own to the
standard's last, in order. What the two candidates write into a unit: the words of its positions and of its chroma pairs,
taken from the same places of field n-2's slot, or averaged with rounding from the lines above and below. -/
def Obligations.RepairUnitSamples : Prop :=
  (∀ (y : Span) (std : Standard),
    (y.kind = .run → y.units std = [⟨y.line, y.first, y.last⟩]) ∧ (y.kind = .line → y.units std = [⟨y.line, 0, 719⟩]) ∧
    (y.kind = .rest →
      (y.units std).length = (match std with | .s625 => 288 | .s525 => 243) - y.line ∧
      ∀ (k : Nat) (u : RepairUnit), (y.units std)[k]? = some u → u = ⟨y.line + k, 0, 719⟩)) ∧
    ∀ (m : Dram) (i j : SlotId) (u : RepairUnit), i ≠ j → u.line < 288 → u.last ≤ 719 →
    (∀ w, w ∈ u.words ↔ (∃ p, u.first ≤ p ∧ p ≤ u.last ∧ w = 2 * p + 1) ∨
      ∃ q, u.first / 2 ≤ q ∧ q ≤ u.last / 2 ∧ (w = 4 * q ∨ w = 4 * q + 2)) ∧
    (∀ w ∈ u.words, (substitute i j u m).read (fieldAddr i u.line w) = m.read (fieldAddr j u.line w)) ∧
    (1 ≤ u.line → ∀ w ∈ u.words, ((interpolate i u m).read (fieldAddr i u.line w)).toNat =
      ((m.read (fieldAddr i (u.line - 1) w)).toNat + (m.read (fieldAddr i (u.line + 1) w)).toNat + 1) / 2) ∧
    ∀ a, (∀ w ∈ u.words, a ≠ fieldAddr i u.line w) →
      (substitute i j u m).read a = m.read a ∧ (interpolate i u m).read a = m.read a

/-- A present label is checked digit by digit, then number by number, then, under drop-frame counting, for a skipped frame
number; the first check that fails gives the result, and a label that passes them all is VALID. -/
def Obligations.LabelValidationOrder : Prop :=
  ∀ (w : LabelWord) (mode : TcMode) (c : Counting), mode ≠ .none → w.valid = true →
    (∀ p : Fin 8, 9 < w.digit p → (∀ q, q < p → w.digit q ≤ 9) → w.validate mode c = .illegalDigit p.val) ∧
    ((∀ p, w.digit p ≤ 9) → w.validate mode c =
      if 23 < 10 * w.digit 0 + w.digit 1 then .range .hours
      else if 59 < 10 * w.digit 2 + w.digit 3 then .range .minutes
      else if 59 < 10 * w.digit 4 + w.digit 5 then .range .seconds
      else if (if c = .s625 then 24 else 29) < 10 * w.digit 6 + w.digit 7 then .range .frames
      else if c = .dropFrame ∧ 10 * w.digit 4 + w.digit 5 = 0 ∧ 10 * w.digit 6 + w.digit 7 ≤ 1 ∧
        (10 * w.digit 2 + w.digit 3) % 10 ≠ 0 then .dropLabel
      else .valid)

/-- A VALID label is converted by the formula of its counting: the index is twice the frame count, and 1 more where the
parity is not the dominance; the origin is READ. The index of any field is at most the highest of its counting. -/
def Obligations.LabelIndexConversion : Prop :=
  (∀ (dec : LabelDecoder) (set : Settings) (seq : Nat) (parity : Parity) (w : LabelWord) (ix : Nat),
    (dec.judge set seq parity w).index = some ix →
      ix ≤ match (dec.judge set seq parity w).counting with
        | .s625 => 4319999
        | .dropFrame => 5178815
        | _ => 5183999) ∧
    ∀ (dec : LabelDecoder) (set : Settings) (seq : Nat) (parity : Parity) (w : LabelWord) (c : Counting),
    c = countingOf set.standard set.tcMode w.dropFrame → w.validate set.tcMode c = .valid →
    ∃ frames, (dec.judge set seq parity w).index =
        some (2 * frames + if parity = set.dominance then 0 else 1) ∧
      (dec.judge set seq parity w).origin = .read ∧ (dec.judge set seq parity w).counting = c ∧
      (dec.judge set seq parity w).result = .valid ∧
      ((c = .s625 ∧ frames = ((w.hours * 60 + w.minutes) * 60 + w.seconds) * 25 + w.frames ∧
          2 * frames + 1 ≤ 4319999) ∨
        (c = .nonDrop ∧ frames = ((w.hours * 60 + w.minutes) * 60 + w.seconds) * 30 + w.frames ∧
          2 * frames + 1 ≤ 5183999) ∨
        (c = .dropFrame ∧ frames + 2 * (60 * w.hours + w.minutes - (60 * w.hours + w.minutes) / 10) =
            30 * (3600 * w.hours + 60 * w.minutes + w.seconds) + w.frames ∧
          2 * frames + 1 ≤ 5178815))

/-- Where the label gives no index, the flywheel gives one exactly when its four conditions hold: the last judged index
plus 1, with the last indexed field's counting, the run rising by 1; else there is no index and the run is 0. A flywheel
field is never marked GAP. The judgement of an ABSENT label uses neither its digits nor its drop-frame bit. -/
def Obligations.FlywheelGivesNextIndex : Prop :=
  (∀ (dec : LabelDecoder) (set : Settings) (seq : Nat) (parity : Parity) (w v : LabelWord),
    (w.valid = false ∧ v.valid = false) ∨ set.tcMode = .none →
      dec.judge set seq parity w = dec.judge set seq parity v ∧ (dec.judge set seq parity w).result = .absent) ∧
    ∀ (dec : LabelDecoder) (set : Settings) (seq : Nat) (parity : Parity) (w : LabelWord) (j : Judgement), dec.ok →
    j = dec.judge set seq parity w → j.result ≠ .valid →
    (∀ q ix li, dec.lastJudged = some ⟨q, some ix⟩ → dec.lastIndexed = some li → q + 1 = seq →
      dec.flywheelRun < set.flywheelLimit → ix + 1 ≤ li.counting.highestIndex →
      j.index = some (ix + 1) ∧ j.origin = .flywheel ∧ j.counting = li.counting ∧ j.gap = false ∧
        (dec.after seq j).flywheelRun = dec.flywheelRun + 1) ∧
    ((∀ q ix li, dec.lastJudged = some ⟨q, some ix⟩ → dec.lastIndexed = some li → q + 1 = seq →
      dec.flywheelRun < set.flywheelLimit → li.counting.highestIndex < ix + 1) →
      j.index = none ∧ j.origin = .absent ∧ j.gap = false ∧ (dec.after seq j).flywheelRun = 0)

/-- The Label Decoder's event for the field in slot `i`: the judgement goes into the record and the decoder's state, a
label error counts for a running operation, and the field joins the window as HELD with one reference; the oldest of five
members leaves, and its slot is FREE at the tail of the free list when that was its last reference. -/
def Obligations.LabelJudgementJoinsWindow : Prop :=
  ∀ (s : State) (l : Lane) (i : SlotId) (r : FieldRecord) (j : Judgement),
    (s.dev.lane l).chain = some ⟨.label, i⟩ → s.dev.record i = some r → i ∉ (s.dev.lane l).window →
    (s.dev.lane l).window.length ≤ 4 →
    j = (s.dev.lane l).decoder.judge (s.dev.lane l).settings r.sequence r.parity r.label →
    ∃ t, exec (.labelJudgement l) s = .next t ∧ (t.dev.lane l).chain = some ⟨.monitor, i⟩ ∧
      t.dev.slot i = { s.dev.slot i with
        state := .held, refs := 1
        record := some { r with
          result := j.result, counting := j.counting, index := j.index, origin := j.origin, gap := j.gap } } ∧
      (t.dev.lane l).decoder = (s.dev.lane l).decoder.after r.sequence j ∧
      (t.dev.lane l).op.counts.timecodeErrors =
        (if (s.dev.lane l).op.state ≠ .idle ∧ j.result.isError = true then
          min 4294967295 ((s.dev.lane l).op.counts.timecodeErrors + 1)
        else (s.dev.lane l).op.counts.timecodeErrors) ∧
      ((s.dev.lane l).window.length < 4 → (t.dev.lane l).window = (s.dev.lane l).window ++ [i] ∧
        t.dev.freeList = s.dev.freeList ∧ ∀ k, k ≠ i → t.dev.slot k = s.dev.slot k) ∧
      (∀ o rest, (s.dev.lane l).window = o :: rest → rest.length = 3 →
        (t.dev.lane l).window = rest ++ [i] ∧ (∀ k, k ≠ i → k ≠ o → t.dev.slot k = s.dev.slot k) ∧
        (1 < (s.dev.slot o).refs → t.dev.freeList = s.dev.freeList ∧
          t.dev.slot o = { s.dev.slot o with refs := (s.dev.slot o).refs - 1 }) ∧
        ((s.dev.slot o).state = .held → (s.dev.slot o).refs = 1 →
          t.dev.freeList = s.dev.freeList ++ [o] ∧ t.dev.slot o = ⟨.free, none, 0, none, none⟩)) ∧
      t.dev.dram = s.dev.dram ∧ s.dev.sameOutside t.dev l ∧ (t.dev.lane l).ingest = (s.dev.lane l).ingest ∧
      t.dev.handler = s.dev.handler ∧ t.link = s.link ∧ t.pending = s.pending

/-- The Cadence Monitor's event for the field in slot `i`. Over the grid, positions 0, 8, … 712 of every line: Level is 16
times the luma sum over the grid count; Dsame 16 times the sum of the differences from field n-2, present when that stands
in the window with field n's parity; Dadj 8 times the sum of twice the sample less the lines of field n-1 above and below
it, present when that stands in the window; each rounded down and within 0 to 16368. The flags compare with the
thresholds. The tracker judges the flags (TrackerLocksAndBreaks); the record shows its state and the position used; then
every position advances by one step of its pattern, the film position too in FILM, and a CADENCE notice follows a change of
state. What the other blocks wrote into the record stays. -/
def Obligations.MonitorMeasuresField : Prop :=
  ∀ (s : State) (l : Lane) (i : SlotId) (r : FieldRecord) (set : Settings) (count : Nat)
    (grid : (Nat → Nat → Int) → Int) (luma : SlotId → Nat → Nat → Int), (s.dev.lane l).chain = some ⟨.monitor, i⟩ →
    s.dev.record i = some r → (s.dev.lane l).settings = set → count = 90 * set.standard.lines →
    (∀ f, grid f = ((List.range set.standard.lines).map fun y => ((List.range 90).map fun k => f y (8 * k)).sum).sum) →
    (∀ k y p, luma k y p = ((s.dev.dram.read (fieldAddr k y (2 * p + 1))).toNat : Int)) →
    ∃ t x lv j, exec (.cadenceMonitorEvent l) s = .next t ∧ t.dev.record i = some x ∧
      x = { r with
        measured := true, dsame := x.dsame, dadj := x.dadj, level := some lv, flagA := x.flagA, flagR := x.flagR
        fullyMeasured := x.fullyMeasured, tracker := x.tracker, position := x.position } ∧
      (lv : Int) = 16 * grid (fun y p => luma i y p) / count ∧
      lv ≤ 16368 ∧ (∀ v, x.dsame = some v → v ≤ 16368) ∧ (∀ v, x.dadj = some v → v ≤ 16368) ∧
      (x.dadj.isSome = (s.dev.earlier l r.sequence 1).isSome) ∧
      (x.dsame.isSome = true ↔
        ∃ k rp, s.dev.earlier l r.sequence 2 = some k ∧ s.dev.record k = some rp ∧ rp.parity = r.parity) ∧
      (∀ k v, s.dev.earlier l r.sequence 2 = some k → x.dsame = some v →
        (v : Int) = 16 * grid (fun y p => ((luma i y p - luma k y p).natAbs : Int)) / count) ∧
      (∀ k v, s.dev.earlier l r.sequence 1 = some k → x.dadj = some v →
        (v : Int) = 8 * grid (fun y p => ((2 * luma i y p -
          luma k ((if 2 * y + r.parity.val = 0 then 1 else 2 * y + r.parity.val - 1) / 2) p -
          luma k ((if 2 * y + r.parity.val + 1 = 2 * set.standard.lines then 2 * y + r.parity.val - 1
            else 2 * y + r.parity.val + 1) / 2) p).natAbs : Int)) / count) ∧
      x.flagA = (x.dadj.map fun v => decide (v < set.combThr)) ∧
      x.flagR = (x.dsame.map fun v => decide (v < set.repeatThr)) ∧
      x.fullyMeasured = (x.dadj.isSome && x.dsame.isSome) ∧
      j = (s.dev.lane l).monitor.judge set r.discontinuity r.held x.flagA x.flagR ∧
      x.tracker = j.1.tracker ∧ x.position = j.2 ∧ (t.dev.lane l).monitor.tracker = j.1.tracker ∧
      (t.dev.lane l).monitor.mismatch = j.1.mismatch ∧
      (t.dev.lane l).monitor.filmPos = (match j.1.tracker with
        | .video => j.1.filmPos
        | .film22 => j.1.filmPos.map fun p => (p + 1) % 2
        | .film32 => j.1.filmPos.map fun p => (p + 1) % 5) ∧
      (∀ n : Fin 7, (t.dev.lane l).monitor.hyps[n] =
        ⟨((s.dev.lane l).monitor.hyps[n].position + 1) % (if n.val < 2 then 2 else 5), j.1.hyps[n].run⟩) ∧
      (x.tracker = (s.dev.lane l).monitor.tracker → t.link = s.link) ∧
      (x.tracker ≠ (s.dev.lane l).monitor.tracker → s.dev.handler.mask.cadence = true → s.link.generals < 8 →
        t.link = s.link.join (.notice (.cadence l x.tracker (t.dev.lane l).monitor.filmPos r.sequence))) ∧
      (t.dev.lane l).chain = some ⟨.controller, i⟩ ∧
      (∀ k, k ≠ i → t.dev.slot k = s.dev.slot k) ∧ t.dev.freeList = s.dev.freeList ∧ t.dev.dram = s.dev.dram ∧
      s.dev.sameOutside t.dev l ∧ (t.dev.lane l).op = (s.dev.lane l).op ∧
      (t.dev.lane l).window = (s.dev.lane l).window ∧ t.dev.handler = s.dev.handler ∧ t.pending = s.pending

/-- The tracker's judgement. The discontinuity mark resets it first; a held field resets it and is not judged; a field not
fully measured and, in VIDEO, cadence off leave it (in FILM the model's reading, log entry 16). In VIDEO every enabled
hypothesis counts an exact match, keeps its run at (1,1) and else starts again; when runs reach lockCount the tracker locks,
to 2:3 before 2:2 and to the lowest number, and the position of that hypothesis is recorded; without one it stays in VIDEO.
So FILM is entered only by such a lock. In FILM an expected pair clears the mismatch run, a field that should pair and does
not breaks, a still picture is tolerated, and any other pair is a mismatch, the third of which breaks. -/
def Obligations.TrackerLocksAndBreaks : Prop :=
  (∀ m : Monitor, m.resetTracker.tracker = .video ∧ m.resetTracker.filmPos = none ∧ m.resetTracker.mismatch = 0 ∧
    ∀ h : Fin 7, m.resetTracker.hyps[h] = ⟨m.hyps[h].position, 0⟩) ∧
    ∀ (m : Monitor) (set : Settings), m.ok set.lockCount →
    (∀ held a r, m.judge set true held a r = m.resetTracker.judge set false held a r) ∧
    (∀ a r, m.judge set false true a r = (m.resetTracker, none)) ∧
    (∀ a r, a = none ∨ r = none ∨ (m.tracker = .video ∧ set.cadenceEnable = false) →
      m.judge set false false a r = (m, none)) ∧
    (∀ (x y : Bool) (run : Fin 7 → Nat) (best : Fin 7 → Prop), m.tracker = .video → set.cadenceEnable = true →
      (∀ h, run h = if hypEnabled set.standard h = false then m.hyps[h].run
        else if (x, y) = expectedPair (hypPattern h) m.hyps[h].position then m.hyps[h].run + 1
        else if x = true ∧ y = true then m.hyps[h].run
        else 0) →
      (∀ h, best h ↔ hypEnabled set.standard h = true ∧ run h = set.lockCount ∧
        ∀ k, hypEnabled set.standard k = true → run k = set.lockCount →
          (hypPattern k = .film32 → hypPattern h = .film32) ∧ (hypPattern k = hypPattern h → h ≤ k)) →
      ∃ (m' : Monitor) (pos : Option Nat), m.judge set false false (some x) (some y) = (m', pos) ∧
        (∀ h : Fin 7, m'.hyps[h] = ⟨m.hyps[h].position, run h⟩) ∧
        (∀ h : Fin 7, best h → m'.tracker = hypPattern h ∧ m'.filmPos = some m.hyps[h].position ∧ m'.mismatch = 0 ∧
          pos = some m.hyps[h].position) ∧
        ((∀ h : Fin 7, hypEnabled set.standard h = true → run h ≠ set.lockCount) →
          m'.tracker = .video ∧ m'.filmPos = none ∧ m'.mismatch = m.mismatch ∧ pos = none)) ∧
    (∀ disc held a r, m.tracker = .video → (m.judge set disc held a r).1.tracker ≠ .video →
      held = false ∧ set.cadenceEnable = true ∧ ∃ x y h, a = some x ∧ r = some y ∧ hypEnabled set.standard h = true ∧
        hypPattern h = (m.judge set disc held a r).1.tracker ∧
        expectedPair (hypPattern h) m.hyps[h].position = (x, y) ∧
        (disc = false → m.hyps[h].run + 1 = set.lockCount) ∧
        (m.judge set disc held a r).2 = some m.hyps[h].position) ∧
    ∀ pos x y, m.tracker ≠ .video → m.filmPos = some pos →
      m.judge set false false (some x) (some y) =
        if (x, y) = expectedPair m.tracker pos then ({ m with mismatch := 0 }, some pos)
        else if (expectedPair m.tracker pos).1 = true ∧ x = false then (m.resetTracker, none)
        else if x = true ∧ y = true then (m, some pos)
        else if m.mismatch = 2 then (m.resetTracker, none)
        else ({ m with mismatch := m.mismatch + 1 }, some pos)

/-- The Operation Controller's event for the field in slot `i` ends the chain: the field counts for a running operation,
which observes its GAP mark, and the lane's other figures, the DRAM and the other lanes stay. First the lane's waiting job
becomes READY: with that field as its next, on which it takes a reference, when the field is its n+1, and without a next
field else; its mode is decided once: ADAPTIVE without FILM_AWARE or outside FILM; woven with the field before where the
recorded position expects a pair and that field is listed; woven with the field after where no pair is expected and that
field, listed, shows its pair in the same pattern; else ADAPTIVE. No older job waits any more. -/
def Obligations.FieldTakenEndsChain : Prop :=
  ∀ (s : State) (l : Lane) (i : SlotId) (r : FieldRecord), (s.dev.lane l).chain = some ⟨.controller, i⟩ →
    s.dev.record i = some r → ∃ t, exec (.fieldTaken l) s = .next t ∧ (t.dev.lane l).chain = none ∧
      (∀ j ∈ (t.dev.lane l).op.jobs, j.state = .waitingNext → j.sequence = r.sequence) ∧
      ((s.dev.lane l).op.state = .idle → (t.dev.lane l).op.counts = (s.dev.lane l).op.counts ∧ t.link = s.link) ∧
      ((s.dev.lane l).op.state ≠ .idle → (t.dev.lane l).op.counts.fieldsTaken =
          min 4294967295 ((s.dev.lane l).op.counts.fieldsTaken + 1) ∧
        (r.gap = true → .timecodeGap ∈ (t.dev.lane l).op.causes)) ∧
      (∀ k, t.dev.record k = s.dev.record k) ∧ t.dev.freeList = s.dev.freeList ∧ t.dev.dram = s.dev.dram ∧
      t.dev.engine = s.dev.engine ∧ s.dev.sameOutside t.dev l ∧ (t.dev.lane l).ingest = (s.dev.lane l).ingest ∧
      (t.dev.lane l).window = (s.dev.lane l).window ∧ (t.dev.lane l).channel = (s.dev.lane l).channel ∧
      (t.dev.lane l).monitor = (s.dev.lane l).monitor ∧ (t.dev.lane l).decoder = (s.dev.lane l).decoder ∧
      t.dev.handler = s.dev.handler ∧ t.pending = s.pending ∧
      ((t.dev.lane l).op.jobs.length = (s.dev.lane l).op.jobs.length → ∀ k, (t.dev.slot k).refs = (s.dev.slot k).refs +
        if k = i ∧ (∃ j, s.dev.waitingJob l = some j ∧ r.sequence = j.sequence + 1) then 1 else 0) ∧
      ∀ rn j, s.dev.waitingJob l = some j → j.fieldSelf.bind s.dev.record = some rn →
        ∃ k m, k ∈ (t.dev.lane l).op.jobs ∧
          k = { j with
            state := .ready, fieldNext := if r.sequence = j.sequence + 1 then some i else none
            items := { j.items with mode := some m } } ∧
          (r.sequence = j.sequence + 1 → (s.dev.slot i).refs + 1 ≤ (t.dev.slot i).refs) ∧
          (j.filmAware = false ∨ rn.tracker = .video → m = .adaptive) ∧
          (∀ p, j.filmAware = true → rn.tracker ≠ .video → rn.position = some p →
            (expectedPair rn.tracker p).1 = true → m = if j.fieldPrev = none then .adaptive else .weavePrev) ∧
          ∀ p, j.filmAware = true → rn.tracker ≠ .video → rn.position = some p →
            (expectedPair rn.tracker p).1 = false →
            m = if r.sequence = j.sequence + 1 ∧ r.flagA = some true ∧ r.tracker = rn.tracker then .weaveNext
              else .adaptive

/-- CUE, SCAN and PROBE end at their field: a CUE at its target, a SCAN at the first field that matches, a PROBE at its
first field, each NORMAL without ending cause. A CUE in EXACT mode that takes a field above its target after one below it
ends ABNORMAL with TARGET_PASSED. A CUE or SCAN whose field does not end it so ends ABNORMAL with NOT_FOUND when the field
is the last its limit allows, and else goes on, a CUE with the field's index as its previous one. -/
def Obligations.SearchesEndAtTheirField : Prop :=
  ∀ (s : State) (l : Lane) (i : SlotId) (r : FieldRecord), (s.dev.lane l).chain = some ⟨.controller, i⟩ →
    s.dev.record i = some r → s.link.hasCompletion l = false →
    (∀ mode target limit, (s.dev.lane l).op.state = .cueing mode target limit →
      ∃ t found passed, exec (.fieldTaken l) s = .next t ∧
        (found ↔ ∃ ix, r.index = some ix ∧ (ix = target ∨ (mode = .atOrAfter ∧ target ≤ ix))) ∧
        (passed ↔ ∃ ix prev, r.index = some ix ∧ mode = .exact ∧ target < ix ∧
          (s.dev.lane l).op.previousIndex = some prev ∧ prev < target) ∧
        (found → ∃ c, s.completes t l c ∧ c.op = .cue ∧ c.cls = .normal ∧ c.cause = none ∧
          c.last = some ⟨r.sequence, r.index, r.origin⟩ ∧ c.part = .nothing) ∧
        (passed → ∃ c, s.completes t l c ∧ c.op = .cue ∧ c.cls = .abnormal ∧ c.cause = some .targetPassed ∧
          .targetPassed ∈ c.causes ∧ c.last = some ⟨r.sequence, r.index, r.origin⟩ ∧ c.part = .nothing) ∧
        (¬found → ¬passed → limit ≤ (s.dev.lane l).op.limitCount + 1 → ∃ c, s.completes t l c ∧ c.op = .cue ∧
          c.cls = .abnormal ∧ c.cause = some .notFound ∧ .notFound ∈ c.causes ∧ c.part = .nothing) ∧
        (¬found → ¬passed → (s.dev.lane l).op.limitCount + 1 < limit →
          (t.dev.lane l).op.state = .cueing mode target limit ∧ t.link = s.link ∧
          (t.dev.lane l).op.limitCount = (s.dev.lane l).op.limitCount + 1 ∧
          (t.dev.lane l).op.previousIndex =
            if r.index = none then (s.dev.lane l).op.previousIndex else r.index)) ∧
    (∀ p v, (s.dev.lane l).op.state = .scanning p → (∀ q, p.parity = some q → q = r.parity) →
      r.measure p.measure = some v → p.comparison.holds p.reference v = true →
      ∃ t c, exec (.fieldTaken l) s = .next t ∧ s.completes t l c ∧ c.op = .scan ∧ c.cls = .normal ∧ c.cause = none ∧
        c.last = some ⟨r.sequence, r.index, r.origin⟩ ∧ c.part = .scanFound ⟨r.sequence, r.index, r.origin⟩ v) ∧
    (∀ p, (s.dev.lane l).op.state = .scanning p →
      (∃ q, p.parity = some q ∧ q ≠ r.parity) ∨ r.measure p.measure = none ∨
        (∃ v, r.measure p.measure = some v ∧ p.comparison.holds p.reference v = false) →
      ∃ t, exec (.fieldTaken l) s = .next t ∧
        (p.limit ≤ (s.dev.lane l).op.limitCount + 1 → ∃ c, s.completes t l c ∧ c.op = .scan ∧ c.cls = .abnormal ∧
          c.cause = some .notFound ∧ .notFound ∈ c.causes ∧ c.part = .nothing) ∧
        ((s.dev.lane l).op.limitCount + 1 < p.limit → (t.dev.lane l).op.state = .scanning p ∧ t.link = s.link ∧
          (t.dev.lane l).op.limitCount = (s.dev.lane l).op.limitCount + 1)) ∧
    (∀ tol ref v, ((Comparison.equal tol).holds ref v = true ↔ ((v : Int) - ref).natAbs ≤ tol) ∧
      (Comparison.atOrBelow.holds ref v = true ↔ v ≤ ref) ∧ (Comparison.atOrAbove.holds ref v = true ↔ ref ≤ v)) ∧
    ((s.dev.lane l).op.state = .probing → (s.dev.lane l).op.first = none →
      ∃ t c, exec (.fieldTaken l) s = .next t ∧ s.completes t l c ∧ c.op = .probe ∧ c.cls = .normal ∧ c.cause = none ∧
        c.first = some ⟨r.sequence, r.index, r.origin⟩ ∧ c.last = some ⟨r.sequence, r.index, r.origin⟩ ∧
        c.part = .probed ⟨⟨r.sequence, r.index, r.origin⟩, r.parity, r.held, r.malformed, r.result, r.spans.length,
          r.dsame, r.dadj, r.level⟩)

/-- A RUNNING transfer gives a field within its marks a job at the tail of its queue, while fewer than 32 jobs are pending,
and so does an ARMED one its start field, which makes it RUNNING (START_LATE observed past an AT_INDEX start): the job waits
for its next field, lists the members n-2, n-1 and n of the window with one reference on each, and carries the transfer's
tag and snapshot and the field's label items. A job that waited for this field has become READY before, with its own
reference on it. The end that the field reaches moves the transfer to DRAINING with END_REACHED. -/
def Obligations.TransferGivesFieldJob : Prop :=
  ∀ (s : State) (l : Lane) (i : SlotId) (r : FieldRecord) (sub : SubState) (p : TransferParams) (snap : Snapshot)
    (op : Controller), (s.dev.lane l).chain = some ⟨.controller, i⟩ → s.dev.record i = some r →
    (s.dev.lane l).op = op → op.state = .transfer sub p → op.snapshot = some snap → op.jobs.length < 32 →
    i ∈ (s.dev.lane l).window →
    (sub = .running ∧ ¬(p.stopOnGap = true ∧ r.gap = true)) ∨
      (sub = .armed ∧ ∀ a, p.start = .atIndex a → ∃ ix, r.index = some ix ∧ a ≤ ix) →
    ¬(p.skipHeld = true ∧ r.held = true) → (∀ e ix, p.ending = .atIndex e → r.index = some ix → ix ≤ e) →
    ∃ t j old, exec (.fieldTaken l) s = .next t ∧ (t.dev.lane l).op.jobs = old ++ [j] ∧
      old.length = op.jobs.length ∧ (∀ k ∈ old, k.state ≠ .waitingNext) ∧
      (s.dev.waitingJob l = none → old = op.jobs) ∧ j.sequence = r.sequence ∧
      j.lane = l ∧ j.tag = op.tag ∧ j.state = .waitingNext ∧ j.snapshot = snap ∧ j.filmAware = p.filmAware ∧
      j.fieldSelf = some i ∧ j.fieldPrev = s.dev.earlier l r.sequence 1 ∧
      j.fieldPrev2 = s.dev.earlier l r.sequence 2 ∧ j.fieldNext = none ∧
      j.buffer = none ∧ j.items.sequence = r.sequence ∧ j.items.index = r.index ∧ j.items.origin = r.origin ∧
      j.items.held = r.held ∧ j.items.mode = none ∧ j.items.tracker = r.tracker ∧
      j.items.substituted = r.substituted ∧ j.items.interpolated = r.interpolated ∧
      j.items.unrepaired = r.unrepaired ∧
      j.items.discontinuity = (r.discontinuity || r.gap || (op.jobsCreated ≠ 0 && op.pendingDiscontinuity)) ∧
      j.items.untrusted = (r.spans.any fun x => x.outcome = .unrepaired || x.outcome = .notAttempted) ∧
      j.items.windowClamped = snap.windowClamped ∧
      (∀ k, (t.dev.slot k).refs = (s.dev.slot k).refs + j.slots.count k +
        if k = i ∧ (∃ w, s.dev.waitingJob l = some w ∧ r.sequence = w.sequence + 1) then 1 else 0) ∧
      (t.dev.lane l).op.jobsCreated = min 16777215 (op.jobsCreated + 1) ∧
      (t.dev.lane l).op.first = some (op.first.getD ⟨r.sequence, r.index, r.origin⟩) ∧
      (t.dev.lane l).op.last = some ⟨r.sequence, r.index, r.origin⟩ ∧
      (∀ a ix, sub = .armed → p.start = .atIndex a → r.index = some ix → a < ix →
        .startLate ∈ (t.dev.lane l).op.causes) ∧
      (p.ending.reached (min 16777215 (op.jobsCreated + 1)) r.index = true →
        (t.dev.lane l).op.state = .transfer .draining p ∧ (t.dev.lane l).op.endCause = some .endReached ∧
        (t.dev.lane l).op.endClass = some .normal) ∧
      (p.ending.reached (min 16777215 (op.jobsCreated + 1)) r.index = false →
        (t.dev.lane l).op.state = .transfer .running p)

/-- Where a transfer gives a field no job. An ARMED one leaves a field that is not its start field alone. A RUNNING one ends
ABNORMAL with TIMECODE_GAP at a GAP field under STOP_ON_GAP (not at its start field); then a field beyond its AT_INDEX end
ends it NORMAL with END_PASSED; then a held field is skipped under SKIP_HELD; then, with 32 jobs pending, the field is
treated as a drop, which under STOP_ON_OVERRUN ends it ABNORMAL with OVERRUN. At a field skipped, or treated as a drop that
does not end it, the end is tested, and END_REACHED ends it NORMAL. A DRAINING one makes no job. An end ends the transfer
at once when nothing of it is outstanding. -/
def Obligations.TransferGivesNoJob : Prop :=
  (∀ (e : TransferEnd) (n : Nat) (x : Option Nat),
    e.reached n x = true ↔ e = .count n ∨ ∃ ix, e = .atIndex ix ∧ x = some ix) ∧
    ∀ (s : State) (l : Lane) (i : SlotId) (r : FieldRecord) (sub : SubState) (p : TransferParams) (op : Controller)
    (starts judged gap past : Prop), (s.dev.lane l).chain = some ⟨.controller, i⟩ → s.dev.record i = some r →
    (s.dev.lane l).op = op → op.state = .transfer sub p →
    (starts ↔ sub = .armed ∧ ∀ a, p.start = .atIndex a → ∃ ix, r.index = some ix ∧ a ≤ ix) →
    (judged ↔ sub = .running ∨ starts) → (gap ↔ sub = .running ∧ p.stopOnGap = true ∧ r.gap = true) →
    (past ↔ ∃ e ix, p.ending = .atIndex e ∧ r.index = some ix ∧ e < ix) →
    ∃ t, exec (.fieldTaken l) s = .next t ∧
      ((sub = .armed ∧ ¬starts) ∨ sub = .draining → (t.dev.lane l).op.state = op.state ∧ t.link = s.link) ∧
      (gap → s.transferEnds t l p .abnormal (some .timecodeGap)) ∧
      (judged → ¬gap → past → s.transferEnds t l p .normal (some .endPassed)) ∧
      (judged → ¬gap → ¬past → p.skipHeld = true ∧ r.held = true →
        (t.dev.lane l).op.counts.heldSkipped = min 4294967295 (op.counts.heldSkipped + 1) ∧
        (p.ending.reached op.jobsCreated r.index = true → s.transferEnds t l p .normal (some .endReached)) ∧
        (p.ending.reached op.jobsCreated r.index = false → (t.dev.lane l).op.state = .transfer .running p)) ∧
      (judged → ¬gap → ¬past → ¬(p.skipHeld = true ∧ r.held = true) → 32 ≤ op.jobs.length →
        (t.dev.lane l).op.counts.fieldsDropped = min 4294967295 (op.counts.fieldsDropped + 1) ∧
        .overrun ∈ (t.dev.lane l).op.causes ∧ (t.dev.lane l).op.pendingDiscontinuity = true ∧
        (p.stopOnOverrun = true → s.transferEnds t l p .abnormal (some .overrun)) ∧
        (p.stopOnOverrun = false → p.ending.reached op.jobsCreated r.index = true →
          s.transferEnds t l p .normal (some .endReached)) ∧
        (p.stopOnOverrun = false → p.ending.reached op.jobsCreated r.index = false →
          (t.dev.lane l).op.state = .transfer .running p)) ∧
      ((sub = .armed ∧ ¬starts) ∨ sub = .draining ∨ gap ∨ past ∨ (p.skipHeld = true ∧ r.held = true) ∨
          32 ≤ op.jobs.length →
        (t.dev.lane l).op.jobs.length = op.jobs.length ∧ (t.dev.lane l).op.jobsCreated = op.jobsCreated ∧
        (t.dev.lane l).op.first = op.first ∧ (t.dev.lane l).op.last = op.last)

/-- The timers of the operations: the ACQUIRE wait timer ends the operation ABNORMAL, with NO_SIGNAL in that lane state and
LOCK_FAILED else; the end of the LINE TEST window ends the operation NORMAL with the code of the first check that fails, a
level of the field-start input counting as seen when a pulse or the command's operand showed it (log entry 10). A timer or a
window that does not run does nothing (the model's choice, log entry 5). -/
def Obligations.OperationTimersComplete : Prop :=
  ∀ (s : State) (l : Lane), s.link.hasCompletion l = false →
    (∀ n, (s.dev.lane l).op.state = .acquiring n → (s.dev.lane l).op.waitTimer = true →
      ∃ t c, exec (.waitTimerExpiry l) s = .next t ∧ s.completes t l c ∧ c.op = .acquire ∧ c.cls = .abnormal ∧
        c.cause = some (if (s.dev.lane l).ingest.state = .noSignal then .noSignal else .lockFailed) ∧
        c.counts = (s.dev.lane l).op.counts ∧ c.part = .nothing ∧
        (t.dev.lane l).ingest = (s.dev.lane l).ingest ∧ s.dev.sameOutside t.dev l ∧ t.dev.slots = s.dev.slots ∧
        t.dev.dram = s.dev.dram) ∧
    ((s.dev.lane l).op.waitTimer = false → exec (.waitTimerExpiry l) s = .next s) ∧
    (∀ w seen, (s.dev.lane l).op.state = .lineTesting w →
      ∃ t c, exec (.testWindowEnd l seen) s = .next t ∧ s.completes t l c ∧ c.op = .lineTest ∧ c.cls = .normal ∧
        c.cause = none ∧
        c.part = .lineCode (if w.sampleSeen = false then 1
          else if w.highSeen = false ∧ seen = .lowOnly then 2
          else if w.lowSeen = false ∧ seen = .highOnly then 3
          else if 4 ≤ w.fieldStarts ∧ ¬(w.parity0Seen = true ∧ w.parity1Seen = true) then 4
          else 0) ∧
        (t.dev.lane l).ingest = (s.dev.lane l).ingest ∧ s.dev.sameOutside t.dev l ∧ t.dev.slots = s.dev.slots ∧
        t.dev.dram = s.dev.dram) ∧
    ((∀ w, (s.dev.lane l).op.state ≠ .lineTesting w) → ∀ seen, exec (.testWindowEnd l seen) s = .next s)

/-! ## Rendering -/

/-- The winner of a grant is an eligible lane of the highest service level among the eligible, the first of them after the
grant pointer in cyclic order; a lane is eligible when its head job is READY and one of its buffers is FREE. A grant with
no job running takes that lane's head job, lends buffer 2L when it is FREE and else 2L+1, and sets the pointer; with a job
running or no lane eligible nothing happens. -/
def Obligations.GrantGoesToNextEligibleLane : Prop :=
  (∀ u : LaneUnit, u.eligible = true ↔ (∃ j rest, u.op.jobs = j :: rest ∧ j.state = .ready) ∧
    (u.channel.buffers[(0 : Fin 2)] = .free ∨ u.channel.buffers[(1 : Fin 2)] = .free)) ∧
    (∀ (d : Device) (l : Lane), d.grantWinner = some l ↔ (d.lane l).eligible = true ∧
      (∀ k, (d.lane k).eligible = true → (d.lane k).settings.serviceLevel ≤ (d.lane l).settings.serviceLevel) ∧
      ∀ k, (d.lane k).eligible = true → (d.lane k).settings.serviceLevel = (d.lane l).settings.serviceLevel →
        (l.val + 3 - d.engine.pointer.val) % 4 ≤ (k.val + 3 - d.engine.pointer.val) % 4) ∧
    ∀ s : State,
      (s.dev.engine.running ≠ none ∨ s.dev.grantWinner = none → exec .grant s = .next s) ∧
      ∀ l, s.dev.engine.running = none → s.dev.grantWinner = some l → ∃ t j rest b, exec .grant s = .next t ∧
        (s.dev.lane l).op.jobs = j :: rest ∧
        b = (if (s.dev.lane l).channel.buffers[(0 : Fin 2)] = .free then 0 else 1) ∧
        t.dev.engine = ⟨some { j with state := .running, buffer := some b }, l⟩ ∧
        t.dev.lane l =
          { s.dev.lane l with
            op := { (s.dev.lane l).op with jobs := rest }
            channel := { (s.dev.lane l).channel with buffers := (s.dev.lane l).channel.buffers.set b .lent } } ∧
        s.dev.sameOutside t.dev l ∧ t.dev.slots = s.dev.slots ∧ t.dev.freeList = s.dev.freeList ∧
        t.dev.dram = s.dev.dram ∧ t.dev.handler = s.dev.handler ∧ t.link = s.link ∧ t.pending = s.pending

/-- The running job's completion: its buffer holds the scaled frame, word by word, joins the tail of its channel's queue as
QUEUED with the job's label items, and every reference goes back, a slot left with none becoming FREE. No container
outside the buffer changes, and the pointer stays. -/
def Obligations.JobCompletionQueuesFrame : Prop :=
  ∀ (s : State) (j : Job) (b : Fin 2), s.dev.engine.running = some j → j.buffer = some b →
    ∃ t, exec .jobCompletion s = .next t ∧ t.dev.engine = ⟨none, s.dev.engine.pointer⟩ ∧
      t.dev.lane j.lane =
        { s.dev.lane j.lane with
          channel := { (s.dev.lane j.lane).channel with
            buffers := (s.dev.lane j.lane).channel.buffers.set b .queued
            queue := (s.dev.lane j.lane).channel.queue ++ [⟨b, j.lane, j.tag, j.transferId, j.items⟩] } } ∧
      (∀ f, s.dev.renderInput j = some f → ∀ y w, y < 1080 → w < 3840 →
        t.dev.dram.read (bufferAddr j.lane b y w) =
          rasterWord (s.dev.filterOf j.snapshot) j.snapshot (f.frameWord (j.items.mode.getD .adaptive)) y w) ∧
      (∀ a, (∀ y w, y < 1080 → w < 3840 → a ≠ bufferAddr j.lane b y w) → t.dev.dram.read a = s.dev.dram.read a) ∧
      (∀ k, j.slots.count k < (s.dev.slot k).refs →
        t.dev.slot k = { s.dev.slot k with refs := (s.dev.slot k).refs - j.slots.count k }) ∧
      (∀ k, k ∉ j.slots → t.dev.slot k = s.dev.slot k) ∧
      (∀ k, k ∈ j.slots → (s.dev.slot k).state = .held → (s.dev.slot k).refs = j.slots.count k →
        t.dev.slot k = ⟨.free, none, 0, none, none⟩ ∧ k ∈ t.dev.freeList) ∧
      s.dev.sameOutside t.dev j.lane ∧ t.dev.handler = s.dev.handler ∧ t.link = s.link ∧ t.pending = s.pending

/-- The output sample of a missing line is T plus the mixed difference, rounded down on whole integers: it lies between its
candidates S and T, is T at a mix factor of 0 and S at 32767. Where a neighbour is not listed the sample is S. -/
def Obligations.BlendStaysBetweenCandidates : Prop :=
  (∀ k s t : Nat, k ≤ 32767 → s ≤ 1023 → t ≤ 1023 →
    (blend k s t : Int) = (t : Int) + ((k : Int) * ((s : Int) - (t : Int)) + 16384) / 32768 ∧
    min s t ≤ blend k s t ∧ blend k s t ≤ max s t ∧ (k = 0 → blend k s t = t) ∧ (k = 32767 → blend k s t = s)) ∧
    ∀ (r : RenderInput) (y w : Nat),
      (r.prev = none ∨ r.next = none → r.adaptiveWord y w = r.spatial y w) ∧
      ∀ p q, r.prev = some p → r.next = some q → ∃ k, k ≤ 32767 ∧ k = r.mixAt p q y (decidingPosition w) ∧
        r.adaptiveWord y w = blend k (r.spatial y w) ((p.word (y / 2) w + q.word (y / 2) w + 1) / 2)

/-- A frame line of field n's parity is field n's own; a missing line woven from a partner is the partner's own word, or
the spatial candidate where the partner is untrusted; the spatial candidate averages the lines above and below, the edge
line standing for the one outside; the mix factor is forced where a neighbour is untrusted, and else follows the motion
measure: the difference of the two neighbours, and, where field n-2 is listed with field n's parity, the mean change of the
lines above and below since it, whichever is greater; and where the words read lie in 0 to 1023, so does every word built. -/
def Obligations.ReconstructedFrameLines : Prop :=
  ∀ (r : RenderInput) (y w : Nat),
    (y % 2 = r.self.parity.val → ∀ mode, r.frameWord mode y w = r.self.word (y / 2) w) ∧
    (y % 2 ≠ r.self.parity.val →
      r.frameWord .adaptive y w = r.adaptiveWord y w ∧
      (∀ p, r.prev = some p → r.frameWord .weavePrev y w =
        if (p.spans.any fun x => (x.outcome = .unrepaired || x.outcome = .notAttempted) &&
          x.covers (y / 2) (decidingPosition w)) = true then r.spatial y w else p.word (y / 2) w) ∧
      ∀ q, r.next = some q → r.frameWord .weaveNext y w =
        if (q.spans.any fun x => (x.outcome = .unrepaired || x.outcome = .notAttempted) &&
          x.covers (y / 2) (decidingPosition w)) = true then r.spatial y w else q.word (y / 2) w) ∧
    (∀ x, decidingPosition (2 * x + 1) = x) ∧
    (∀ q, decidingPosition (4 * q) = 2 * q ∧ decidingPosition (4 * q + 2) = 2 * q) ∧
    r.spatial y w = (r.self.word ((if y = 0 then 1 else y - 1) / 2) w +
      r.self.word ((if y + 1 = r.frame then y - 1 else y + 1) / 2) w + 1) / 2 ∧
    (∀ p q x, r.prev2 = none → r.mixAt p q y x =
      if untrustedAt p.spans (y / 2) x = true ∨ untrustedAt q.spans (y / 2) x = true then 32767
      else min 32767 ((((p.word (y / 2) (2 * x + 1) : Int) - q.word (y / 2) (2 * x + 1)).natAbs - r.mlow) * r.gain)) ∧
    (∀ p q f x a b, r.prev2 = some f → a = (if y = 0 then 1 else y - 1) / 2 →
      b = (if y + 1 = r.frame then y - 1 else y + 1) / 2 → r.mixAt p q y x =
      if untrustedAt p.spans (y / 2) x = true ∨ untrustedAt q.spans (y / 2) x = true then 32767
      else min 32767 (((if f.parity = r.self.parity
        then max ((p.word (y / 2) (2 * x + 1) : Int) - q.word (y / 2) (2 * x + 1)).natAbs
          ((((r.self.word a (2 * x + 1) : Int) - f.word a (2 * x + 1)).natAbs +
            ((r.self.word b (2 * x + 1) : Int) - f.word b (2 * x + 1)).natAbs + 1) / 2)
        else ((p.word (y / 2) (2 * x + 1) : Int) - q.word (y / 2) (2 * x + 1)).natAbs) - r.mlow) * r.gain)) ∧
    ((∀ i v, r.self.word i v ≤ 1023) → (∀ p, r.prev = some p → ∀ i v, p.word i v ≤ 1023) →
      (∀ q, r.next = some q → ∀ i v, q.word i v ≤ 1023) → ∀ mode, r.frameWord mode y w ≤ 1023)

/-- The snapshot of a valid profile: its window is fitted to the lane's frame height, the mark says whether that changed
anything, and its three step pairs come from the fitted window, each step the floor of S times 65536 over D and each offset
the floor of half of step less 65536. -/
def Obligations.SnapshotStepsAndWindow : Prop :=
  (∀ src dst : Nat, 0 < dst →
    (scaleStep src dst).step * dst ≤ (src : Int) * 65536 ∧
    (src : Int) * 65536 < ((scaleStep src dst).step + 1) * dst ∧
    2 * (scaleStep src dst).offset ≤ (scaleStep src dst).step - 65536 ∧
    (scaleStep src dst).step - 65536 < 2 * (scaleStep src dst).offset + 2 ∧
    (src < dst → (scaleStep src dst).step < 65536 ∧ (scaleStep src dst).offset < 0) ∧
    (src ≤ 2 * dst → (scaleStep src dst).step ≤ 131072 ∧ (scaleStep src dst).offset ≤ 32768)) ∧
    ∀ (std : Standard) (p : Profile), p.geometryOk = true → ∃ y0 hs mark,
      takeSnapshot std p =
        ⟨{ p with y0 := y0, hs := hs }, mark, scaleStep p.ws p.wd, scaleStep (p.ws / 2) (p.wd / 2),
          scaleStep hs p.hd⟩ ∧
      y0 = (if std.frameLines - 16 < p.y0 then std.frameLines - 16 else p.y0) ∧
      hs = min p.hs (std.frameLines - y0) ∧ (mark = true ↔ y0 ≠ p.y0 ∨ hs ≠ p.hs) ∧
      (std = .s625 → y0 = p.y0 ∧ hs = p.hs) ∧ 16 ≤ hs ∧ y0 + hs ≤ std.frameLines

/-- The scaler: a position is 65536 times its integer part plus its fraction, whose top five bits are the phase; a tap
never reads outside the window; every output of either pass lies in 0 to 1023, and with set 0 the rounded sum needs no
clamp; outside the destination rectangle the raster carries the border. -/
def Obligations.ScalerStaysInRange : Prop :=
  (∀ (s : ScaleStep) (j : Nat), (j : Int) * s.step + s.offset = 65536 * s.intPart j + s.frac j ∧ s.frac j < 65536 ∧
    (s.phase j).val = s.frac j / 2048) ∧
    (∀ (size : Nat) (i : Int), 0 < size → clampIndex size i < size ∧
      (0 ≤ i → i < size → (clampIndex size i : Int) = i) ∧ (i < 0 → clampIndex size i = 0) ∧
      (size ≤ i → clampIndex size i = size - 1)) ∧
    (∀ (f : FilterSet) (s : ScaleStep) (size : Nat) (src : Nat → Nat) (j : Nat),
      horizontalTap f s size src j ≤ 1023 ∧ verticalTap f s size src j ≤ 1023) ∧
    (∀ (s : ScaleStep) (size : Nat) (src : Nat → Nat) (j : Nat), (∀ i, src i ≤ 1023) →
      (horizontalTap FilterSet.linear s size src j : Int) = (((List.finRange 6).map fun t =>
        (FilterSet.linear.h[s.phase j])[t] * (src (clampIndex size (s.intPart j - 2 + (t.val : Int))) : Int)).sum +
          8192) / 16384 ∧
      (verticalTap FilterSet.linear s size src j : Int) = (((List.finRange 4).map fun t =>
        (FilterSet.linear.v[s.phase j])[t] * (src (clampIndex size (s.intPart j - 1 + (t.val : Int))) : Int)).sum +
          8192) / 16384) ∧
    ∀ (f : FilterSet) (s : Snapshot) (frame : Nat → Nat → Nat) (y x : Nat),
      (¬(s.profile.yd ≤ y ∧ y < s.profile.yd + s.profile.hd ∧ s.profile.xd ≤ x ∧ x < s.profile.xd + s.profile.wd) →
        rasterLuma f s frame y x = s.profile.borderY) ∧
      (¬(s.profile.yd ≤ y ∧ y < s.profile.yd + s.profile.hd ∧ s.profile.xd / 2 ≤ x ∧
          x < (s.profile.xd + s.profile.wd) / 2) →
        rasterChroma f s frame 0 y x = s.profile.borderCb ∧ rasterChroma f s frame 2 y x = s.profile.borderCr)

/-! ## Output Channels -/

/-- A send starts on an IDLE channel with a frame queued and ready high; each line but the last is followed by the next
while ready is high and by a pause while it is low; a rise of ready resumes a paused send at the line not yet sent; a fall
is only noted. Nothing but that channel changes. A send start that the channel is not ready for, and a line end while no
line before the last is under way, change nothing (the model's choice, log entry 5). -/
def Obligations.ChannelFollowsReady : Prop :=
  ∀ (s : State) (l : Lane) (c : Channel), (s.dev.lane l).channel = c →
    (∀ f rest, c.send = .idle → c.queue = f :: rest → c.ready = true →
      exec (.sendStart l) s = .next { s with dev := s.dev.modLane l fun u =>
        { u with channel := { c with buffers := c.buffers.set f.buffer .sending, send := .sending 0 } } }) ∧
    (c.send ≠ .idle ∨ c.queue = [] ∨ c.ready = false → exec (.sendStart l) s = .next s) ∧
    (∀ n, c.send = .sending n → n < 1080 →
      exec (.outputLineEnd l) s = .next { s with dev := s.dev.modLane l fun u =>
        { u with channel := { c with send := if c.ready = true then .sending (n + 1) else .paused (n + 1) } } }) ∧
    ((∀ n, c.send = .sending n → 1080 ≤ n) → exec (.outputLineEnd l) s = .next s) ∧
    (∀ n, c.send = .paused n → exec (.recorderReadyRise l) s = .next { s with dev := s.dev.modLane l fun u =>
      { u with channel := { c with ready := true, send := .sending n } } }) ∧
    ((∀ n, c.send ≠ .paused n) → exec (.recorderReadyRise l) s = .next { s with dev := s.dev.modLane l fun u =>
      { u with channel := { c with ready := true } } }) ∧
    exec (.recorderReadyFall l) s = .next { s with dev := s.dev.modLane l fun u =>
      { u with channel := { c with ready := false } } }

/-- The end of line 1080 takes the head frame out of the queue, frees its buffer and leaves the channel IDLE; the frame
counts for the running transfer that made it, and it completes a DRAINING transfer of which nothing else is left. -/
def Obligations.SendCompletionFreesBuffer : Prop :=
  ∀ (s : State) (l : Lane) (f : Frame) (rest : List Frame), (s.dev.lane l).channel.send = .sending 1080 →
    (s.dev.lane l).channel.queue = f :: rest → ∃ t, exec (.sendCompletion l) s = .next t ∧
      (t.dev.lane l).channel =
        { (s.dev.lane l).channel with
          buffers := (s.dev.lane l).channel.buffers.set f.buffer .free, queue := rest, send := .idle } ∧
      (∀ x p, (s.dev.lane l).op.state = .transfer x p → f.transferId = (s.dev.lane l).op.transferId →
        (t.dev.lane l).op.counts.framesSent = min 4294967295 ((s.dev.lane l).op.counts.framesSent + 1)) ∧
      (f.transferId ≠ (s.dev.lane l).op.transferId → (t.dev.lane l).op.counts = (s.dev.lane l).op.counts) ∧
      ((∀ p, (s.dev.lane l).op.state ≠ .transfer .draining p) →
        (t.dev.lane l).op.state = (s.dev.lane l).op.state ∧ t.link = s.link) ∧
      (∀ p, (s.dev.lane l).op.state = .transfer .draining p → s.link.hasCompletion l = false →
        (s.dev.lane l).op.jobs = [] → (∀ j, s.dev.engine.running = some j → j.lane ≠ l) →
        (∀ x ∈ rest, x.transferId ≠ (s.dev.lane l).op.transferId) →
        ∃ c, s.completes t l c ∧ c.op = .transfer ∧ c.cls = (s.dev.lane l).op.endClass.getD .normal ∧
          c.cause = (s.dev.lane l).op.endCause ∧ c.counts = (t.dev.lane l).op.counts) ∧
      (t.dev.lane l).ingest = (s.dev.lane l).ingest ∧ (t.dev.lane l).window = (s.dev.lane l).window ∧
      s.dev.sameOutside t.dev l ∧ t.dev.slots = s.dev.slots ∧ t.dev.freeList = s.dev.freeList ∧
      t.dev.dram = s.dev.dram ∧ t.dev.engine = s.dev.engine ∧ t.dev.handler = s.dev.handler ∧ t.pending = s.pending

/-- Every outbound record is START, LENGTH with the count of its bytes from KIND to the last body byte, KIND, TAG, LINK,
body and CHECK, and sums to 0 from LENGTH through CHECK; every frame label has 19 bytes that sum to 0, carried by the first
19 words of line 0 of its send, with 512 in the others. -/
def Obligations.RecordsAndLabelsSumToZero : Prop :=
  (∀ (r : Record) (k : LinkFlags), r.link = some k → r.message.body.length ≤ 247 → ∃ len kind lnk check : Byte,
    r.bytes = [0xC3, len, kind, r.message.tag, lnk] ++ r.message.body ++ [check] ∧
      len.toNat = 3 + r.message.body.length ∧ kind.toNat = r.message.kind ∧
      lnk.toNat = (if k.truncated then 1 else 0) + (if k.format then 2 else 0) + (if k.checkFailed then 4 else 0) +
        (if k.overrun then 8 else 0) + (if k.noticesLost then 16 else 0) ∧
      byteSum ([len, kind, r.message.tag, lnk] ++ r.message.body ++ [check]) = 0) ∧
    ∀ (d : Device) (l : Lane) (f : Frame) (rest : List Frame), (d.lane l).channel.send = .sending 0 →
      (d.lane l).channel.queue = f :: rest → ∃ ws, d.lineOut l = some ws ∧ ws.length = 3840 ∧ f.label.length = 19 ∧
        byteSum f.label = 0 ∧ (∀ n, n < 19 → ws[n]? = (f.label[n]?).map fun b => b.setWidth 10) ∧
        ∀ n, 19 ≤ n → n < 3840 → ws[n]? = some 512

/-! ## The Control Link -/

/-- The end of a byte time of a selection moves the receiver: HUNT waits for START, LENGTH takes 2 to 250 and sets FORMAT
else, BODY keeps LENGTH bytes, and CHECK ends the frame: a good one joins the request queue while it holds fewer than 4 and
sets OVERRUN else, a bad one sets CHECK_FAILED. While select is high there is no byte time to end. -/
def Obligations.ReceiverTakesBytesAndFrames : Prop :=
  ∀ (s : State) (b : Byte),
    (s.link.selected = false → exec (.byteTimeEnd b) s = .next s) ∧
    (s.link.awaitsCheck = false → exec (.frameReceived b) s = .next s) ∧
    (s.link.receiver ≠ .length → exec (.lengthFormatError b) s = .next s) ∧
    (s.link.selected = true → ∃ t, exec (.byteTimeEnd b) s = .next t ∧ t.pending = s.pending ∧
      (s.link.sendingCheck = false → t.dev = s.dev) ∧
      (s.link.receiver = .hunt → t.link.receiver = (if b = 0xC3 then .length else .hunt) ∧
        t.link.requests = s.link.requests) ∧
      (s.link.receiver = .length → 2 ≤ b.toNat → b.toNat ≤ 250 →
        t.link.receiver = .body b.toNat [] ∧ t.link.requests = s.link.requests) ∧
      (s.link.receiver = .length → (b.toNat < 2 ∨ 250 < b.toNat) →
        exec (.lengthFormatError b) s = .next t ∧ t.link.receiver = .hunt ∧ t.link.flags.format = true ∧
        t.link.requests = s.link.requests) ∧
      (∀ len bs, s.link.receiver = .body len bs → t.link.requests = s.link.requests ∧ t.link.receiver =
        if bs.length + 1 < len then .body len (bs ++ [b]) else .check len (bs ++ [b])) ∧
      ∀ len kind tag body, s.link.receiver = .check len (kind :: tag :: body) →
        exec (.frameReceived b) s = .next t ∧ t.link.receiver = .hunt ∧
        (byteSum ([BitVec.ofNat 8 len, kind, tag] ++ body ++ [b]) ≠ 0 →
          t.link.flags.checkFailed = true ∧ t.link.requests = s.link.requests) ∧
        (byteSum ([BitVec.ofNat 8 len, kind, tag] ++ body ++ [b]) = 0 → s.link.requests.length < 4 →
          t.link.requests = s.link.requests ++ [⟨kind, tag, body⟩]) ∧
        (byteSum ([BitVec.ofNat 8 len, kind, tag] ++ body ++ [b]) = 0 → 4 ≤ s.link.requests.length →
          t.link.flags.overrun = true ∧ t.link.requests = s.link.requests))

/-- A fall of select opens a selection with its first byte time; a rise closes it: the frame under assembly is discarded
with TRUNCATED, and the records of the outbound queue stay, in order, to be sent again whole. A fall while a selection is
open and a rise while none is change nothing (the model's choice, log entry 5); a start that is due at the rise is made
first (log entry 8). -/
def Obligations.SelectOpensAndCloses : Prop :=
  ∀ s : State,
    (s.link.selected = true → exec .selectFall s = .next s) ∧ (s.link.selected = false → exec .selectRise s = .next s) ∧
    (s.link.selected = false → ∃ x, exec .selectFall s = .next
      { s with link := { s.link with selected := true, byteTime := x } } ∧
      (s.link.inFlight ≠ none → x = .carrying) ∧ (s.link.inFlight = none → s.link.outbound = [] → x = .filler) ∧
      (s.link.inFlight = none → s.link.outbound ≠ [] → x = .startDue)) ∧
    (s.link.selected = true → ∃ t, exec .selectRise s = .next t ∧ t.dev = s.dev ∧ t.pending = s.pending ∧
      t.link.selected = false ∧ t.link.byteTime = .closed ∧ t.link.inFlight = none ∧ t.link.receiver = .hunt ∧
      t.link.requests = s.link.requests ∧ (s.link.receiver ≠ .hunt → t.link.flags.truncated = true) ∧
      t.link.outbound.map Record.message = s.link.outbound.map Record.message ∧
      (s.link.byteTime ≠ .startDue → t.link.outbound = s.link.outbound ∧
        (s.link.receiver = .hunt → t.link.flags = s.link.flags)))

/-- The head record starts out when a start is due: at its first start its LINK byte takes the link flags, which are
cleared; a second start clears nothing. After the byte time of its CHECK the record has left the queue, a held completion
of its lane joins the tail, and the next record's start is due at once. The model's choices in it: a start commanded while
none is due changes nothing (log entry 5); a due start is made at the latest by the next event of the link (log entry 8);
the end of the CHECK byte is the command's byte time (log entry 14). -/
def Obligations.RecordsStartOutAndLeave : Prop :=
  ∀ s : State,
    (∀ r rest, s.link.byteTime = .startDue → s.link.inFlight = none → s.link.outbound = r :: rest → r.link = none →
      exec .recordStartOut s = .next { s with link := { s.link with
        outbound := { r with link := some s.link.flags } :: rest
        inFlight := some ⟨{ r with link := some s.link.flags }, 0, false⟩
        byteTime := .carrying, flags := ⟨false, false, false, false, false⟩ } }) ∧
    (∀ r rest, s.link.byteTime = .startDue → s.link.inFlight = none → s.link.outbound = r :: rest → r.link ≠ none →
      exec .recordStartOut s = .next { s with link := { s.link with
        inFlight := some ⟨r, 0, false⟩, byteTime := .carrying } }) ∧
    (s.link.byteTime ≠ .startDue → exec .recordStartOut s = .next s) ∧
    (∀ f b, s.link.selected = true → s.link.byteTime = .carrying → s.link.inFlight = some f →
      f.count + 1 < f.record.bytes.length → ∃ t, exec (.byteTimeEnd b) s = .next t ∧
        t.link.inFlight = some { f with count := f.count + 1 } ∧ t.link.outbound = s.link.outbound ∧
        t.link.byteTime = .carrying ∧ t.dev = s.dev) ∧
    ∀ f b rest, s.link.selected = true → s.link.byteTime = .carrying → s.link.inFlight = some f →
      f.record.bytes.length ≤ f.count + 1 → f.orphan = false → s.link.outbound = f.record :: rest →
      ∃ t, exec (.recordSent b) s = .next t ∧ exec (.byteTimeEnd b) s = .next t ∧ t.link.inFlight = none ∧
        t.pending = s.pending ∧ (t.link.outbound ≠ [] → t.link.byteTime = .startDue) ∧
        (t.link.outbound = [] → t.link.byteTime = .filler ∧ t.link.attention = false) ∧
        ((∀ c, f.record.message = .notice (.completion c) → (s.dev.lane c.lane).op.held = none) →
          t.link.outbound = rest ∧ t.dev = s.dev) ∧
        ∀ c h, f.record.message = .notice (.completion c) → (s.dev.lane c.lane).op.held = some h →
          t.link.outbound = rest ++ [⟨.notice (.completion h), none⟩] ∧
          t.dev = s.dev.modLane c.lane fun u => { u with op := { u.op with held := none } }

/-! ## The Request Handler -/

/-- A refusal changes nothing in the part apart from its reply, which carries the request's KIND and TAG, no data and no
CLAMPED flag. -/
def Obligations.RefusalsChangeNothing : Prop :=
  ∀ (c : Instr) (s t : State) (q : Reply) (code : RefusalCode), isRequest c = true → exec c s = .next t →
    t.link.outbound = s.link.outbound ++ [⟨.reply q, none⟩] → q.outcome = .refused code →
    t.dev = s.dev ∧ t.link = { s.link with
      requests := s.link.requests.tail, outbound := s.link.outbound ++ [⟨.reply q, none⟩] } ∧
      t.pending = s.pending ∧ q.data = [] ∧ q.clamped = false ∧
      ∃ r, s.takeable = some r ∧ q.kind = r.kind ∧ q.tag = r.tag

/-- Every request taken, but for SELF TEST and RESET, leaves the queue and places exactly one reply, the last record of the
event, with its KIND and TAG. -/
def Obligations.TakenRequestsAreAnswered : Prop :=
  ∀ (s : State) (r : Request), s.takeable = some r → r.kind.toNat ≠ 0x0B → r.kind.toNat ≠ 0x0C →
    ∃ t q, exec (commandOf r.kind.toNat) s = .next t ∧ t.link.requests = s.link.requests.tail ∧
      t.link.outbound.getLast? = some ⟨.reply q, none⟩ ∧ q.kind = r.kind ∧ q.tag = r.tag ∧
      t.link.replies = s.link.replies + 1 ∧ t.pending = s.pending

/-- The queries STATUS, CAPABILITIES and INSPECT FIELD, a request of no known kind and one of a wrong length leave the
blocks as they are and answer: CAPABILITIES with the same ten bytes at every request; STATUS with 96 bytes; INSPECT FIELD
with the record of the member at that position, or presence 0. -/
def Obligations.QueriesAnswer : Prop :=
  ∀ (s : State) (r : Request),
    (s.takes 0x02 r → exec .capabilities s = .next { s with
      link := s.link.answered r .done false [4, 96, 8, 4, 8, 4, 32, 4, 16, 3] } ∧ Message.ready.body = [3]) ∧
    (s.takes 0x01 r → ∃ data, exec .status s = .next { s with link := s.link.answered r .done false data } ∧
      data.length = 96 ∧ data[0]? = some (BitVec.ofNat 8 s.dev.handler.access.code) ∧
      data[2]? = some (BitVec.ofNat 8 s.dev.freeList.length) ∧
      data[3]? = some (BitVec.ofNat 8 (s.link.requests.length - 1)) ∧
      data[4]? = some (BitVec.ofNat 8 s.link.outbound.length) ∧
      data[6]? = some (BitVec.ofNat 8 s.dev.engine.pointer.val) ∧
      ∀ l : Lane, data[16 + 20 * l.val]? = some (BitVec.ofNat 8 (s.dev.lane l).ingest.state.code) ∧
        data[16 + 20 * l.val + 8]? = some (BitVec.ofNat 8 (s.dev.slotsInUse l))) ∧
    (s.takes 0x03 r → ∀ lb pb : Byte, r.body = [lb, pb] →
      (4 ≤ lb.toNat ∨ 4 ≤ pb.toNat → exec .inspectField s = .next { s with
        link := s.link.answered r (.refused .range) false [] }) ∧
      ∀ l : Lane, lb.toNat = l.val → pb.toNat < 4 →
        (∀ i x, (s.dev.lane l).window.reverse[pb.toNat]? = some i → s.dev.record i = some x →
          exec .inspectField s = .next { s with
            link := s.link.answered r .done false (encodeFieldRecord l pb.toNat i x) }) ∧
        ((s.dev.lane l).window.reverse[pb.toNat]? = none →
          exec .inspectField s = .next { s with link := s.link.answered r .done false [0, lb, pb] })) ∧
    (s.takeable = some r → isRequestKind r.kind.toNat = false → exec .unknownKind s = .next { s with
      link := s.link.answered r (.refused .unknownKind) false [] }) ∧
    (s.takeable = some r → isRequestKind r.kind.toNat = true → lengthOk r.kind.toNat r.body = false →
      exec (commandOf r.kind.toNat) s = .next { s with link := s.link.answered r (.refused .length) false [] })

/-- The maintenance strap and SET ACCESS: a fall of the strap lowers the level, a rise changes none; OPERATOR is always
granted, ENGINEERING only while the strap is high, and any other value is out of range. The four engineering requests are
refused at OPERATOR. -/
def Obligations.AccessLevelFollowsStrap : Prop :=
  ∀ s : State,
    exec .strapFall s = .next { s with
      dev := { s.dev with strap := false, handler := { s.dev.handler with access := .operator } } } ∧
    exec .strapRise s = .next { s with dev := { s.dev with strap := true } } ∧
    (∀ r (v : Byte), s.takes 0x07 r → r.body = [v] →
      (v = 0 → exec .setAccess s = .next { s with
        dev := { s.dev with handler := { s.dev.handler with access := .operator } }
        link := s.link.answered r .done false [0, if s.dev.strap = true then 1 else 0] }) ∧
      (v = 1 → s.dev.strap = true → exec .setAccess s = .next { s with
        dev := { s.dev with handler := { s.dev.handler with access := .engineering } }
        link := s.link.answered r .done false [1, 1] }) ∧
      (v = 1 → s.dev.strap = false → exec .setAccess s = .next { s with
        link := s.link.answered r (.refused .privilege) false [] }) ∧
      (v ≠ 0 → v ≠ 1 → exec .setAccess s = .next { s with
        link := s.link.answered r (.refused .range) false [] })) ∧
    ∀ r k, k = 0x08 ∨ k = 0x09 ∨ k = 0x0A ∨ k = 0x0B → s.takes k r → s.dev.handler.access = .operator →
      exec (commandOf k) s = .next { s with link := s.link.answered r (.refused .privilege) false [] }

/-- CONFIGURE LANE: an accepted request puts every named setting in force, each numeric value clamped into its range, keeps
the others, and replies with the values in force and CLAMPED where one was clamped. A change of a cadence parameter resets
the lane's tracker; without one nothing else changes. A changed standard, dominance or timecode mode on a lane that is not
OFF is refused with BUSY. -/
def Obligations.ConfigureLaneSetsNamedItems : Prop :=
  (∀ (x : Settings) (items : List Item) (code : Nat), 1 ≤ code → code ≤ 12 → (items.map Item.code).Nodup →
    (∀ i ∈ items, i.code = code → i.enumOk = true → (x.applyItems items).value code =
      match itemRange code with
      | some (lo, hi) => max lo (min hi i.value)
      | none => i.value) ∧
    ((∀ i ∈ items, i.code ≠ code) → (x.applyItems items).value code = x.value code)) ∧
    ∀ (s : State) (r : Request) (l : Lane) (rest : List Byte) (items : List Item) (x : Settings), s.takes 0x04 r →
      r.body = BitVec.ofNat 8 l.val :: rest → rest.length % 3 = 0 → items = readItems rest → itemCodesOk items = true →
      (items.all Item.enumOk) = true → x = (s.dev.lane l).settings.applyItems items →
      (((s.dev.lane l).ingest.state = .off ∨ (items.any (Item.changesFixed (s.dev.lane l).settings)) = false) →
        ¬(x.standard = .s625 ∧ x.tcMode = .drop) → ∃ t q, exec .configureLane s = .next t ∧
          (t.dev.lane l).settings = x ∧ t.link.outbound.getLast? = some ⟨.reply q, none⟩ ∧ q.outcome = .done ∧
          q.data = BitVec.ofNat 8 l.val :: x.encode ∧ (q.clamped = true ↔ ∃ i ∈ items, i.clamped ≠ i) ∧
          ((s.dev.lane l).settings.cadenceChanged x = true →
            (t.dev.lane l).monitor = (s.dev.lane l).monitor.resetTracker) ∧
          ((s.dev.lane l).settings.cadenceChanged x = false →
            t.dev.lane l = { s.dev.lane l with settings := x } ∧
            t.link = s.link.answered r .done q.clamped q.data) ∧
          (t.dev.lane l).ingest = (s.dev.lane l).ingest ∧ (t.dev.lane l).op = (s.dev.lane l).op ∧
          s.dev.sameOutside t.dev l ∧ t.dev.slots = s.dev.slots ∧ t.dev.dram = s.dev.dram ∧
          t.dev.handler = s.dev.handler ∧ t.pending = s.pending) ∧
      ((s.dev.lane l).ingest.state ≠ .off → (items.any (Item.changesFixed (s.dev.lane l).settings)) = true →
        exec .configureLane s = .next { s with link := s.link.answered r (.refused .busy) false [] })

/-- LOAD PROFILE, SET NOTICES and PARTITION replace what they name and nothing else, when their checks pass: a profile with
a known set and a valid geometry, its border and blend values clamped; the three settings of the notice mask; the four
quotas, at ENGINEERING with all lanes OFF, each 8 to 72 and 96 together. -/
def Obligations.HandlerTablesAreReplaced : Prop :=
  ∀ (s : State) (r : Request),
    (s.takes 0x05 r → ∀ n : Fin 8, field r.body 0 1 = n.val → (readProfile r.body).filterSet ≤ 3 →
      (readProfile r.body).geometryOk = true → ∃ p, exec .loadProfile s = .next { s with
        dev := { s.dev with handler := { s.dev.handler with profiles := s.dev.handler.profiles.set n p } }
        link := s.link.answered r .done (decide (p ≠ readProfile r.body)) (encodeProfile n.val p) } ∧
        p = { readProfile r.body with
          borderY := min 1023 (readProfile r.body).borderY, borderCb := min 1023 (readProfile r.body).borderCb
          borderCr := min 1023 (readProfile r.body).borderCr, mlow := min 1023 (readProfile r.body).mlow
          gain := min 4095 (readProfile r.body).gain }) ∧
    (s.takes 0x05 r → (7 < field r.body 0 1 ∨ 3 < (readProfile r.body).filterSet ∨
      (readProfile r.body).geometryOk = false) →
      exec .loadProfile s = .next { s with link := s.link.answered r (.refused .range) false [] }) ∧
    (s.takes 0x06 r → ∀ a b c : Bool, r.body = [0x91, if a then 1 else 0, 0x92, if b then 1 else 0, 0x93, if c then 1 else 0] →
      exec .setNotices s = .next { s with
        dev := { s.dev with handler := { s.dev.handler with mask := ⟨a, b, c⟩ } }
        link := s.link.answered r .done false
          [BitVec.ofNat 8 ((if a then 1 else 0) + (if b then 2 else 0) + (if c then 4 else 0))] }) ∧
    (s.takes 0x08 r → s.dev.handler.access = .engineering → (∀ l, (s.dev.lane l).ingest.state = .off) →
      ∀ q0 q1 q2 q3 : Byte, r.body = [q0, q1, q2, q3] → (∀ q ∈ [q0, q1, q2, q3], 8 ≤ q.toNat ∧ q.toNat ≤ 72) →
      q0.toNat + q1.toNat + q2.toNat + q3.toNat ≤ 96 → ∃ t, exec .partition s = .next t ∧
        t.dev.lane 0 = { s.dev.lane 0 with quota := q0.toNat } ∧ t.dev.lane 1 = { s.dev.lane 1 with quota := q1.toNat } ∧
        t.dev.lane 2 = { s.dev.lane 2 with quota := q2.toNat } ∧ t.dev.lane 3 = { s.dev.lane 3 with quota := q3.toNat } ∧
        t.dev.slots = s.dev.slots ∧ t.dev.freeList = s.dev.freeList ∧ t.dev.dram = s.dev.dram ∧
        t.dev.handler = s.dev.handler ∧ t.dev.engine = s.dev.engine ∧
        t.link = s.link.answered r .done false [q0, q1, q2, q3] ∧ t.pending = s.pending) ∧
    (s.takes 0x08 r → s.dev.handler.access = .engineering → (∃ l, (s.dev.lane l).ingest.state ≠ .off) →
      exec .partition s = .next { s with link := s.link.answered r (.refused .busy) false [] })

/-- A coefficient load: LOAD COEFFICIENTS opens a set of 1 to 3 that no transfer uses, with its marks cleared and its
coefficients kept; COEFFICIENT DATA on an INCOMPLETE set writes one phase whose taps sum to 16384 and sets its mark, the
64th of which makes the set COMPLETE; the other sets stay. -/
def Obligations.CoefficientLoad : Prop :=
  ∀ (s : State) (r : Request) (n : Fin 4), s.dev.handler.access = .engineering →
    (s.takes 0x09 r → r.body = [BitVec.ofNat 8 n.val] → n ≠ 0 →
      (∀ l p, ((s.dev.lane l).op.snapshot = some p → p.profile.filterSet = n.val →
        (s.dev.lane l).op.state.kind ≠ .transfer)) →
      exec .loadCoefficients s = .next { s with
        dev := { s.dev with handler := { s.dev.handler with
          filters := s.dev.handler.filters.set n { s.dev.handler.filters[n] with
            complete := false, marksH := Vector.replicate 32 false, marksV := Vector.replicate 32 false } } }
        link := s.link.answered r .done false [BitVec.ofNat 8 n.val, 0, 0] }) ∧
    (s.takes 0x09 r → r.body = [0] →
      exec .loadCoefficients s = .next { s with link := s.link.answered r (.refused .range) false [] }) ∧
    (s.takes 0x0A r → ∀ (vert : Bool) (phase : Fin 32) (rest : List Byte),
      r.body = BitVec.ofNat 8 n.val :: (if vert then 1 else 0) :: BitVec.ofNat 8 phase.val :: rest →
      rest.length = 2 * (if vert then 4 else 6) → s.dev.handler.filters[n].complete = false →
      (readTaps rest).sum = 16384 → ∃ f, exec .coefficientData s = .next { s with
        dev := { s.dev with handler := { s.dev.handler with filters := s.dev.handler.filters.set n f } }
        link := s.link.answered r .done false [BitVec.ofNat 8 f.marks, if f.complete then 1 else 0] } ∧
        (f.complete = true ↔ f.marks = 64) ∧
        (vert = false → f.v = s.dev.handler.filters[n].v ∧ f.marksV = s.dev.handler.filters[n].marksV ∧
          f.h[phase].toList = readTaps rest ∧ f.marksH[phase] = true ∧
          ∀ k, k ≠ phase → f.h[k] = s.dev.handler.filters[n].h[k] ∧ f.marksH[k] = s.dev.handler.filters[n].marksH[k]) ∧
        (vert = true → f.h = s.dev.handler.filters[n].h ∧ f.marksH = s.dev.handler.filters[n].marksH ∧
          f.v[phase].toList = readTaps rest ∧ f.marksV[phase] = true ∧
          ∀ k, k ≠ phase → f.v[k] = s.dev.handler.filters[n].v[k] ∧
            f.marksV[k] = s.dev.handler.filters[n].marksV[k]))

/-- A SELF TEST at ENGINEERING with all lanes OFF and no frame queued leaves the handler SELF_TESTING without a reply; no
request is taken while it runs; its end places the reply PASS, or FAIL with the unit, and frees the handler. The test
leaves the slot table, the free list and the lanes alone, and the whole DRAM undefined (log entry 3). -/
def Obligations.SelfTestRunsAndReplies : Prop :=
  ∀ s : State,
    (∀ r, s.takes 0x0B r → s.dev.handler.access = .engineering → (∀ l, (s.dev.lane l).ingest.state = .off) →
      (∀ l, (s.dev.lane l).channel.queue = []) → ∃ m, exec .selfTest s = .next { s with
        dev := { s.dev with handler := { s.dev.handler with state := .selfTesting r.tag }, dram := m }
        link := { s.link with requests := s.link.requests.tail } } ∧
        ∀ a, m.read a = Config.undefinedWord (s.dev.dram.gens[dramRegion a] + 1) a) ∧
    (∀ r, s.takes 0x0B r → s.dev.handler.access = .engineering →
      (∃ l, (s.dev.lane l).ingest.state ≠ .off ∨ (s.dev.lane l).channel.queue ≠ []) →
      exec .selfTest s = .next { s with link := s.link.answered r (.refused .busy) false [] }) ∧
    (∀ tag u, s.dev.handler.state = .selfTesting tag →
      (∀ c, isRequest c = true → exec c s = .next s) ∧
      (u = none ∨ (∃ n, u = some n ∧ (n ≤ 95 ∨ (100 ≤ n ∧ n ≤ 107))) →
        ∃ m, exec (.selfTestEnd u) s = .next { s with
          dev := { s.dev with handler := { s.dev.handler with state := .free }, dram := m }
          link := s.link.join (.reply ⟨0x0B, tag, .done, false,
            [if u = none then 0 else 1, BitVec.ofNat 8 (u.getD 0)]⟩) } ∧
          ∀ a, m.read a = Config.undefinedWord (s.dev.dram.gens[dramRegion a] + 1) a))

/-! ## Operation requests -/

/-- An accepted ACQUIRE starts seeking: an OFF lane is enabled, SEEKING with its counts cleared, its timer started and its
Label Decoder and Cadence Monitor at their enable values; an enabled one goes on as it is; a LOCKED lane answers DONE and
nothing starts. A lane with a running operation or a held completion refuses it with BUSY. -/
def Obligations.AcquireSeeksLock : Prop :=
  ∀ (s : State) (r : Request) (l : Lane) (wait : Byte), s.takes 0x10 r → r.body = [BitVec.ofNat 8 l.val, wait] →
    ((s.dev.lane l).op.state ≠ .idle ∨ (s.dev.lane l).op.held ≠ none →
      exec .acquire s = .next { s with link := s.link.answered r (.refused .busy) false [] }) ∧
    (wait ≠ 0 → (s.dev.lane l).op.state = .idle → (s.dev.lane l).op.held = none →
    ((s.dev.lane l).ingest.state = .locked →
      exec .acquire s = .next { s with link := s.link.answered r .done false [3] }) ∧
    ((s.dev.lane l).ingest.state ≠ .locked → ∃ t q, exec .acquire s = .next t ∧
      t.link.outbound.getLast? = some ⟨.reply q, none⟩ ∧ q.outcome = .started ∧
      (t.dev.lane l).op.state = .acquiring wait.toNat ∧ (t.dev.lane l).op.waitTimer = true ∧
      (t.dev.lane l).op.seekingCount = 0 ∧ (t.dev.lane l).op.tag = r.tag ∧
      (t.dev.lane l).op.counts = ⟨0, 0, 0, 0, 0, 0, 0, 0⟩ ∧ (t.dev.lane l).op.causes = [] ∧
      ((s.dev.lane l).ingest.state = .off → q.data = [2] ∧
        (t.dev.lane l).ingest = ⟨.seeking, 0, 0, 0, true, none, none, none⟩ ∧
        (t.dev.lane l).decoder = ⟨none, none, 0⟩ ∧ (t.dev.lane l).monitor = Monitor.reset ∧
        (s.dev.handler.mask.lock = true → s.link.generals < 8 → ∃ more, t.link.outbound =
          s.link.outbound ++ ⟨.notice (.lock l .seeking 0), none⟩ :: more)) ∧
      ((s.dev.lane l).ingest.state ≠ .off → q.data = [BitVec.ofNat 8 (s.dev.lane l).ingest.state.code] ∧
        (t.dev.lane l).ingest = (s.dev.lane l).ingest ∧ (t.dev.lane l).decoder = (s.dev.lane l).decoder ∧
        (t.dev.lane l).monitor = (s.dev.lane l).monitor ∧ t.link = s.link.answered r .started false q.data) ∧
      s.dev.sameOutside t.dev l ∧ t.dev.slots = s.dev.slots ∧ t.dev.freeList = s.dev.freeList ∧
      t.dev.dram = s.dev.dram ∧ (t.dev.lane l).settings = (s.dev.lane l).settings ∧ t.dev.handler = s.dev.handler ∧
      t.pending = s.pending))

/-- CUE, SCAN and PROBE on a LOCKED lane and LINE TEST on an OFF one start their operation with the request's tag, every
count 0, no cause and no field, and reply STARTED; nothing else of the machine changes. The checks come in order: the lane
number, the running operation or held completion, the lane's state, the parameters. -/
def Obligations.OperationsStart : Prop :=
  ∀ (s : State) (r : Request) (k : Nat), s.takes k r →
    (k = 0x12 ∨ k = 0x13 ∨ k = 0x15 ∨ k = 0x16 ∨ k = 0x17 → 4 ≤ field r.body 0 1 → exec (commandOf k) s = .next
      { s with link := s.link.answered r (.refused .range) false [] }) ∧
    ∀ l : Lane, field r.body 0 1 = l.val →
      (k = 0x12 ∨ k = 0x13 ∨ k = 0x15 ∨ k = 0x16 ∨ k = 0x17 →
        (s.dev.lane l).op.state ≠ .idle ∨ (s.dev.lane l).op.held ≠ none →
        exec (commandOf k) s = .next { s with link := s.link.answered r (.refused .busy) false [] }) ∧
      ((s.dev.lane l).op.state = .idle → (s.dev.lane l).op.held = none →
        (k = 0x12 ∨ k = 0x13 ∨ k = 0x15 ∨ k = 0x16 → (s.dev.lane l).ingest.state ≠ .locked →
          exec (commandOf k) s = .next { s with
            link := s.link.answered r
              (.refused (if (s.dev.lane l).ingest.state = .off then .laneOff else .notLocked)) false [] }) ∧
        (k = 0x17 → (s.dev.lane l).ingest.state ≠ .off →
          exec .lineTest s = .next { s with link := s.link.answered r (.refused .busy) false [] }) ∧
        ∀ st c, ((s.dev.lane l).ingest.state = .locked ∧
            ((k = 0x12 ∧ c = .cue ∧ ∃ m t lim, readCue r.body = some (m, t, lim) ∧ st = .cueing m t lim) ∨
              (k = 0x15 ∧ c = .scan ∧ ∃ p, readScan r.body = some p ∧ st = .scanning p) ∨
              (k = 0x16 ∧ c = .probe ∧ st = .probing))) ∨
            ((s.dev.lane l).ingest.state = .off ∧ k = 0x17 ∧ c = .lineTest ∧
              st = .lineTesting ⟨false, false, false, 0, false, false⟩) →
          exec c s = .next { s with
            dev := s.dev.modLane l fun u => { u with op := { u.op with
              state := st, tag := r.tag, counts := ⟨0, 0, 0, 0, 0, 0, 0, 0⟩, causes := [], endCause := none
              endClass := none, first := none, last := none, lastTag := none, limitCount := 0
              previousIndex := none } }
            link := s.link.answered r .started false [] })

/-- An accepted TRANSFER is ARMED with the snapshot of its profile as it stands, WINDOW_CLAMPED observed when the snapshot
carries the mark, no job created and its tag the lane's last transfer tag; a profile whose filter set is INCOMPLETE
refuses it. -/
def Obligations.TransferArms : Prop :=
  ∀ (s : State) (r : Request) (l : Lane) (p : TransferParams) (prof : Fin 8) (set : Fin 4), s.takes 0x13 r →
    field r.body 0 1 = l.val → (s.dev.lane l).op.state = .idle → (s.dev.lane l).op.held = none →
    (s.dev.lane l).ingest.state = .locked → readTransfer r.body = some p → p.profile = prof.val →
    s.dev.handler.profiles[prof].filterSet = set.val →
    (s.dev.handler.filters[set].complete = false →
      exec .transfer s = .next { s with link := s.link.answered r (.refused .incomplete) false [] }) ∧
    (s.dev.handler.filters[set].complete = true → ∃ t snap, exec .transfer s = .next t ∧
      snap = takeSnapshot (s.dev.lane l).settings.standard s.dev.handler.profiles[prof] ∧
      (t.dev.lane l).op.state = .transfer .armed p ∧ (t.dev.lane l).op.snapshot = some snap ∧
      (t.dev.lane l).op.tag = r.tag ∧ (t.dev.lane l).op.lastTag = some ⟨r.tag, false⟩ ∧
      (t.dev.lane l).op.jobsCreated = 0 ∧ (t.dev.lane l).op.jobs = (s.dev.lane l).op.jobs ∧
      (t.dev.lane l).op.counts = ⟨0, 0, 0, 0, 0, 0, 0, 0⟩ ∧ (t.dev.lane l).op.first = none ∧
      (t.dev.lane l).op.last = none ∧
      (t.dev.lane l).op.causes = (if snap.windowClamped = true then [.windowClamped] else []) ∧
      t.link = s.link.answered r .started false [] ∧ (t.dev.lane l).ingest = (s.dev.lane l).ingest ∧
      (t.dev.lane l).window = (s.dev.lane l).window ∧ (t.dev.lane l).channel = (s.dev.lane l).channel ∧
      s.dev.sameOutside t.dev l ∧ t.dev.slots = s.dev.slots ∧ t.dev.freeList = s.dev.freeList ∧
      t.dev.dram = s.dev.dram ∧ t.dev.handler = s.dev.handler ∧ t.pending = s.pending)

/-- An accepted AMEND replaces the transfer's end, observes AMENDED and replies DONE; in RUNNING an end behind the work
already done ends the transfer NORMAL with END_REACHED at once. An AMEND of no matching transfer is refused, TOO_LATE when
the last transfer of that tag has completed and NOT_RUNNING else; a DRAINING one is too late. The last field given a job that
carries an index is kept as that index, which an AT_INDEX end is compared with (the model's reading of R154, log entry
17). -/
def Obligations.AmendReplacesEnd : Prop :=
  ∀ (s : State) (r : Request) (l : Lane) (en : TransferEnd) (op : Controller) (tag : Byte), s.takes 0x14 r →
    field r.body 0 1 = l.val → readEnd (field r.body 2 1) (field r.body 3 4) = some en → r.body[1]? = some tag →
    (s.dev.lane l).op = op →
    (op.state.kind ≠ .transfer ∨ op.tag ≠ tag → exec .amend s = .next { s with
      link := s.link.answered r
        (.refused (if op.lastTag = some ⟨tag, true⟩ then .tooLate else .notRunning)) false [] }) ∧
    (∀ p, op.state = .transfer .draining p → op.tag = tag →
      exec .amend s = .next { s with link := s.link.answered r (.refused .tooLate) false [] }) ∧
    (∀ sub p, op.state = .transfer sub p → op.tag = tag →
      (sub = .armed ∧ ∀ a e, p.start = .atIndex a → en = .atIndex e → a ≤ e) ∨
        (sub = .running ∧ (∀ n, en = .count n → op.jobsCreated < n) ∧
          ∀ e, en = .atIndex e → ∀ ix, op.lastJobIndex = some ix → ix < e) →
      exec .amend s = .next { s with
        dev := s.dev.modLane l fun u => { u with op := { u.op with
          state := .transfer sub { p with ending := en }, causes := insertCause .amended u.op.causes } }
        link := s.link.answered r .done false [] }) ∧
    (∀ p, op.state = .transfer .running p → op.tag = tag → op.jobs ≠ [] →
      (∃ n, en = .count n ∧ n ≤ op.jobsCreated) ∨
        (∃ e ix, en = .atIndex e ∧ op.lastJobIndex = some ix ∧ e ≤ ix) →
      ∃ t, exec .amend s = .next t ∧ (t.dev.lane l).op.state = .transfer .draining { p with ending := en } ∧
        (t.dev.lane l).op.endCause = some .endReached ∧ (t.dev.lane l).op.endClass = some .normal ∧
        .amended ∈ (t.dev.lane l).op.causes ∧ (t.dev.lane l).op.jobs = op.jobs ∧
        t.link = s.link.answered r .done false [] ∧ s.dev.sameOutside t.dev l ∧ t.dev.slots = s.dev.slots ∧
        t.dev.dram = s.dev.dram)

/-- STOP ends a running operation ABORTED without cause and discards the lane's jobs, cutting its running job, and leaves
the Ingest Lane, the window and the frame queue; RELEASE does the same and takes the lane OFF with its window emptied and
its blocks at their release values. A cut frees the buffer; the completion is placed before the reply. -/
def Obligations.StopAndReleaseAbort : Prop :=
  ∀ (s : State) (r : Request) (l : Lane), field r.body 0 1 = l.val →
    (s.takes 0x18 r → (s.dev.lane l).op.state = .idle →
      exec .stop s = .next { s with link := s.link.answered r (.refused .notRunning) false [] }) ∧
    (∀ c, (s.takes 0x18 r ∧ c = Instr.stop ∧ (s.dev.lane l).op.state ≠ .idle) ∨ (s.takes 0x11 r ∧ c = Instr.release) →
      ∃ t q, exec c s = .next t ∧ t.link.outbound.getLast? = some ⟨.reply q, none⟩ ∧ q.outcome = .done ∧ q.data = [] ∧
        (t.dev.lane l).op.state = .idle ∧ (t.dev.lane l).op.jobs = [] ∧ (t.dev.lane l).op.snapshot =
          (if (s.dev.lane l).op.state = .idle then (s.dev.lane l).op.snapshot else none) ∧
        ((s.dev.lane l).op.state ≠ .idle → s.link.hasCompletion l = false → ∃ a x z, t.link.outbound =
          s.link.outbound ++ a ++ [⟨.notice (.completion x), none⟩, z] ∧ x.cls = .aborted ∧ x.cause = none ∧
          x.lane = l ∧ x.tag = (s.dev.lane l).op.tag ∧ x.counts = (s.dev.lane l).op.counts ∧ x.part = .nothing) ∧
        (∀ j b, s.dev.engine.running = some j → j.lane = l → j.buffer = some b →
          t.dev.engine.running = none ∧ (t.dev.lane l).channel.buffers[b] = .free) ∧
        ((∀ j, s.dev.engine.running = some j → j.lane ≠ l) →
          t.dev.engine = s.dev.engine ∧ (t.dev.lane l).channel = (s.dev.lane l).channel ∧ t.dev.dram = s.dev.dram) ∧
        t.dev.engine.pointer = s.dev.engine.pointer ∧ (t.dev.lane l).channel.queue = (s.dev.lane l).channel.queue ∧
        (t.dev.lane l).channel.send = (s.dev.lane l).channel.send ∧
        (∀ a, dramRegion a = 0 → t.dev.dram.read a = s.dev.dram.read a) ∧
        (c = .stop → (t.dev.lane l).ingest = (s.dev.lane l).ingest ∧ (t.dev.lane l).window = (s.dev.lane l).window ∧
          (t.dev.lane l).chain = (s.dev.lane l).chain) ∧
        (c = .release → (t.dev.lane l).ingest = ⟨.off, 0, 0, 0, false, none, none, none⟩ ∧
          (t.dev.lane l).window = [] ∧ (t.dev.lane l).chain = none ∧ (t.dev.lane l).overrun = false ∧
          (t.dev.lane l).decoder = ⟨none, none, 0⟩ ∧ (t.dev.lane l).monitor = Monitor.reset) ∧
        (t.dev.lane l).settings = (s.dev.lane l).settings ∧ (t.dev.lane l).quota = (s.dev.lane l).quota ∧
        s.dev.sameOutside t.dev l ∧ t.dev.handler = s.dev.handler ∧ t.pending = s.pending)

/-! ## Laws of the device -/

/-- Every step keeps the law of the link: at most 4 replies, 8 general notices and one completion for each lane in the
outbound queue, so at most 16 records; at most 4 requests; the record in flight is the queue's head; a running self test
keeps a reply place; a held completion is its own lane's. -/
def Obligations.EveryStepKeepsLinkLaw : Prop :=
  (∀ s t : State, s.linkLaw → step s = .next t → t.linkLaw) ∧ ∀ s : State, s.linkLaw → s.link.outbound.length ≤ 16

/-- Every step keeps the canonical form of the stacked DRAM: its listed containers in strictly rising order. -/
def Obligations.EveryStepKeepsDramForm : Prop :=
  ∀ s t : State, s.dev.dram.wf = true → step s = .next t → t.dev.dram.wf = true

/-- Every step keeps the bounds of the lanes: at most 4 window members, at most 32 pending jobs, the counters of the Ingest
Lane inside their widths; and every step keeps the Label Decoder's law: when the last judged field has an index, it is the
last indexed field. -/
def Obligations.EveryStepKeepsLaneFigures : Prop :=
  (∀ s t : State, s.laneLaw → step s = .next t → t.laneLaw) ∧
    ∀ s t : State, s.decoderLaw → step s = .next t → t.decoderLaw

/-- Every step keeps the law of the free list: it holds no number twice and exactly the FREE slots; a lane's open field and
the field in its chain hold two different WRITING slots of that lane. -/
def Obligations.EveryStepKeepsFreeList : Prop :=
  ∀ s t : State, s.dev.freeListOk → step s = .next t → t.dev.freeListOk

/-- Every step keeps the law of the Field Store: the law of the free list; a FREE slot empty, a WRITING one its owner's open
field or field in the chain, a HELD one with a count of exactly the references that the windows and the jobs of its owner
hold on it; an OFF lane holding nothing; and every lane's slots in use within its quota. Where it holds, the free list's
length is 96 less the four lanes' slots in use. -/
def Obligations.EveryStepKeepsFieldStore : Prop :=
  (∀ s t : State, s.dev.storeOk → step s = .next t → t.dev.storeOk) ∧
    ∀ d : Device, d.storeOk → d.quotasOk ∧
      d.freeList.length + (d.slotsInUse 0 + d.slotsInUse 1 + d.slotsInUse 2 + d.slotsInUse 3) = 96

/-- Every step keeps the law of the frame buffers: the frames of a queue stand in different buffers, each QUEUED or
SENDING, every pending job is its own lane's, and the running job's buffer is LENT, so a channel never holds more than two
frames. -/
def Obligations.EveryStepKeepsFrameBuffers : Prop :=
  (∀ s t : State, s.dev.buffersOk → step s = .next t → t.dev.buffersOk) ∧
    ∀ s : State, s.dev.buffersOk → ∀ l, (s.dev.lane l).channel.queue.length ≤ 2

/-- Every step keeps the settings in their ranges and the quotas in 8 to 72 with a sum of at most 96; every step but the
take of a PARTITION keeps each lane's slots in use within its quota (with it: EveryStepKeepsFieldStore); and every step
keeps the laws of the Cadence Monitors: no film position and every run below lockCount in VIDEO, a film position inside the pattern in FILM. -/
def Obligations.EveryStepKeepsSettingsAndTrackers : Prop :=
  (∀ s t : State, s.settingsLaw → step s = .next t → t.settingsLaw) ∧
    (∀ s t : State, s.dev.quotasOk → s.pending.head? ≠ some .partition → step s = .next t → t.dev.quotasOk) ∧
    ∀ s t : State, s.settingsLaw → s.monitorLaw → step s = .next t → t.monitorLaw

/-- Isolation. An event of one lane leaves every other lane, the Request Handler and the strap as they are, whatever the
state. And only power-on reset, RESET, the self test, the writing of fields and frames, repair, and the cut of a job by STOP
or RELEASE can change the stacked DRAM; every other command leaves all of it as it was. -/
def Obligations.LanesAreIndependent : Prop :=
  (∀ (c : Instr) (l : Lane) (s t : State), eventLane c = some l → exec c s = .next t →
    s.dev.sameOutside t.dev l ∧ t.dev.handler = s.dev.handler ∧ t.dev.strap = s.dev.strap ∧ t.pending = s.pending) ∧
    ∀ (c : Instr) (s t : State), mayTouchDram c = false → exec c s = .next t → t.dev.dram = s.dev.dram

end
end

