-- ==== Sys2Proof/Laws/Dram.lean ====
section
/-! SUPPORT. The stacked DRAM: reading after writing, and the canonical form that every operation keeps. -/
namespace Sys2Proof.Machine

/-! ## Cells -/

/-- Rising from `lo` says: every address is at `lo` or above, and the addresses rise strictly. -/
theorem risingFrom_iff (lo : Nat) (cs : List (Nat × Sample)) :
    risingFrom lo cs = true ↔ (∀ c ∈ cs, lo ≤ c.1) ∧ cs.Pairwise fun a b => a.1 < b.1 := by
  induction cs generalizing lo with
  | nil => simp [risingFrom]
  | cons c cs ih =>
    simp only [risingFrom, Bool.and_eq_true, decide_eq_true_eq, ih, List.forall_mem_cons, List.pairwise_cons]
    constructor
    · rintro ⟨h0, h1, h2⟩
      exact ⟨⟨h0, fun c' hc => by have := h1 c' hc; omega⟩, fun c' hc => by have := h1 c' hc; omega, h2⟩
    · rintro ⟨⟨h0, _⟩, h1, h2⟩
      exact ⟨h0, fun c' hc => h1 c' hc, h2⟩

theorem Dram.wf_iff (m : Dram) : m.wf = true ↔ m.cells.Pairwise fun a b => a.1 < b.1 := by
  simp [Dram.wf, risingFrom_iff]

theorem findCell_setCell_self (a : Nat) (v : Sample) (cs : List (Nat × Sample)) :
    findCell a (setCell a v cs) = some v := by
  induction cs with
  | nil => simp [setCell, findCell]
  | cons c cs ih =>
    simp only [setCell]
    split
    · simp [findCell]
    · split
      · simp [findCell]
      · simp [findCell, ih, ‹¬c.1 = a›]

theorem findCell_setCell_of_ne {a b : Nat} (v : Sample) (h : b ≠ a) (cs : List (Nat × Sample)) :
    findCell b (setCell a v cs) = findCell b cs := by
  induction cs with
  | nil => simp [setCell, findCell, Ne.symm h]
  | cons c cs ih =>
    simp only [setCell]
    split
    · simp [findCell, Ne.symm h]
    · split
      · subst a; simp [findCell, Ne.symm h]
      · simp [findCell, ih]

theorem mem_setCell {a : Nat} {v : Sample} {cs : List (Nat × Sample)} {c : Nat × Sample} (h : c ∈ setCell a v cs) :
    c = (a, v) ∨ c ∈ cs := by
  induction cs with
  | nil => simpa [setCell] using h
  | cons b cs ih =>
    simp only [setCell] at h
    split at h
    · simpa using h
    · split at h
      · simp only [List.mem_cons] at h ⊢; tauto
      · simp only [List.mem_cons] at h ⊢
        rcases h with h | h
        · tauto
        · have := ih h; tauto

theorem setCell_rising {a : Nat} {v : Sample} {cs : List (Nat × Sample)}
    (h : cs.Pairwise fun x y => x.1 < y.1) : (setCell a v cs).Pairwise fun x y => x.1 < y.1 := by
  induction cs with
  | nil => simp [setCell]
  | cons c cs ih =>
    simp only [List.pairwise_cons] at h
    simp only [setCell]
    split
    · simp only [List.pairwise_cons, List.forall_mem_cons]
      exact ⟨⟨‹_›, fun y hy => lt_trans ‹_› (h.1 y hy)⟩, h⟩
    · split
      · subst a; exact List.pairwise_cons.2 ⟨h.1, h.2⟩
      · refine List.pairwise_cons.2 ⟨fun y hy => ?_, ih h.2⟩
        rcases mem_setCell hy with rfl | hy
        · simp only; omega
        · exact h.1 y hy

theorem mem_cellsFrom {a : Nat} {vs : List Sample} {c : Nat × Sample} (h : c ∈ cellsFrom a vs) :
    a ≤ c.1 ∧ c.1 < a + vs.length := by
  induction vs generalizing a with
  | nil => simp [cellsFrom] at h
  | cons v vs ih =>
    simp only [cellsFrom, List.mem_cons] at h
    rcases h with rfl | h
    · simp
    · have := ih h; simp only [List.length_cons]; omega

theorem cellsFrom_rising (a : Nat) (vs : List Sample) : (cellsFrom a vs).Pairwise fun x y => x.1 < y.1 := by
  induction vs generalizing a with
  | nil => simp [cellsFrom]
  | cons v vs ih =>
    refine List.pairwise_cons.2 ⟨fun y hy => ?_, ih (a + 1)⟩
    have := mem_cellsFrom hy; simp only; omega

theorem findCell_append (b : Nat) (xs ys : List (Nat × Sample)) :
    findCell b (xs ++ ys) = (findCell b xs).or (findCell b ys) := by
  induction xs with
  | nil => simp [findCell]
  | cons c cs ih => simp only [List.cons_append, findCell]; split <;> simp [ih]

theorem findCell_eq_none {b : Nat} {cs : List (Nat × Sample)} (h : ∀ c ∈ cs, c.1 ≠ b) : findCell b cs = none := by
  induction cs with
  | nil => rfl
  | cons c cs ih =>
    simp only [List.forall_mem_cons] at h
    simp [findCell, h.1, ih h.2]

theorem findCell_filter {b : Nat} {p : Nat × Sample → Bool} (cs : List (Nat × Sample)) (h : ∀ v, p (b, v) = true) :
    findCell b (cs.filter p) = findCell b cs := by
  induction cs with
  | nil => rfl
  | cons c cs ih =>
    obtain ⟨x, v⟩ := c
    by_cases hx : x = b
    · subst x; simp [h, findCell]
    · simp only [List.filter_cons]; split <;> simp [findCell, hx, ih]

theorem findCell_cellsFrom (a n : Nat) (vs : List Sample) : findCell (a + n) (cellsFrom a vs) = vs[n]? := by
  induction vs generalizing a n with
  | nil => simp [cellsFrom, findCell]
  | cons v vs ih =>
    simp only [cellsFrom, findCell]
    cases n with
    | zero => simp
    | succ n => rw [if_neg (by omega), show a + (n + 1) = a + 1 + n by omega, ih]; simp

/-! ## Reading after writing -/

theorem Dram.read_write_self (m : Dram) (a : Nat) (v : Sample) : (m.write a v).read a = v := by
  simp [Dram.read, Dram.write, findCell_setCell_self]

theorem Dram.read_write_of_ne (m : Dram) {a b : Nat} (v : Sample) (h : b ≠ a) : (m.write a v).read b = m.read b := by
  simp [Dram.read, Dram.write, findCell_setCell_of_ne v h]

theorem Dram.read_writeRun_outside (m : Dram) {a b : Nat} (vs : List Sample) (h : b < a ∨ a + vs.length ≤ b) :
    (m.writeRun a vs).read b = m.read b := by
  have h2 : findCell b (cellsFrom a vs) = none := findCell_eq_none fun c hc => by have := mem_cellsFrom hc; omega
  rcases h with h | h
  · have h1 : findCell b (m.cells.filter fun c => c.1 < a) = findCell b m.cells :=
      findCell_filter _ fun v => by simpa using h
    have h3 : findCell b (m.cells.filter fun c => a + vs.length ≤ c.1) = none :=
      findCell_eq_none fun c hc => by have := (List.mem_filter.1 hc).2; simp only [decide_eq_true_eq] at this; omega
    simp [Dram.read, Dram.writeRun, findCell_append, h1, h2, h3]
  · have h1 : findCell b (m.cells.filter fun c => c.1 < a) = none :=
      findCell_eq_none fun c hc => by have := (List.mem_filter.1 hc).2; simp only [decide_eq_true_eq] at this; omega
    have h3 : findCell b (m.cells.filter fun c => a + vs.length ≤ c.1) = findCell b m.cells :=
      findCell_filter _ fun v => by simpa using h
    simp [Dram.read, Dram.writeRun, findCell_append, h1, h2, h3]

theorem Dram.read_writeRun_inside (m : Dram) (a n : Nat) (vs : List Sample) (h : n < vs.length) :
    (m.writeRun a vs).read (a + n) = vs[n] := by
  have h1 : findCell (a + n) (m.cells.filter fun c => c.1 < a) = none :=
    findCell_eq_none fun c hc => by have := (List.mem_filter.1 hc).2; simp only [decide_eq_true_eq] at this; omega
  simp [Dram.read, Dram.writeRun, findCell_append, h1, findCell_cellsFrom, h]

theorem Dram.read_forget_of_ne (m : Dram) {g : Fin 9} {b : Nat} (h : dramRegion b ≠ g) :
    (m.forget g).read b = m.read b := by
  have h1 : findCell b (m.cells.filter fun c => dramRegion c.1 ≠ g) = findCell b m.cells :=
    findCell_filter _ fun v => by simpa using h
  have h2 : g.val ≠ (dramRegion b).val := fun c => h (Fin.ext c.symm)
  simp only [Dram.read, Dram.forget, h1]
  congr 2
  simp [h2]

/-! ## The canonical form -/

theorem Dram.wf_write {m : Dram} (a : Nat) (v : Sample) (h : m.wf = true) : (m.write a v).wf = true := by
  rw [Dram.wf_iff] at h ⊢
  exact setCell_rising h

theorem Dram.wf_writeRun {m : Dram} (a : Nat) (vs : List Sample) (h : m.wf = true) : (m.writeRun a vs).wf = true := by
  rw [Dram.wf_iff] at h ⊢
  simp only [Dram.writeRun, List.pairwise_append]
  refine ⟨⟨h.sublist List.filter_sublist, cellsFrom_rising a vs, fun x hx y hy => ?_⟩,
    h.sublist List.filter_sublist, fun x hx y hy => ?_⟩
  · have h1 := (List.mem_filter.1 hx).2
    have h2 := mem_cellsFrom hy
    simp only [decide_eq_true_eq] at h1; omega
  · have h1 := (List.mem_filter.1 hy).2
    simp only [decide_eq_true_eq] at h1
    rcases List.mem_append.1 hx with hx | hx
    · have h2 := (List.mem_filter.1 hx).2
      simp only [decide_eq_true_eq] at h2; omega
    · have h2 := mem_cellsFrom hx; omega

theorem Dram.wf_forget {m : Dram} (g : Fin 9) (h : m.wf = true) : (m.forget g).wf = true := by
  rw [Dram.wf_iff] at h ⊢
  exact h.sublist List.filter_sublist

theorem Dram.wf_forgetBuffers {m : Dram} (h : m.wf = true) : m.forgetBuffers.wf = true := by
  rw [Dram.wf_iff] at h ⊢
  exact h.sublist List.filter_sublist

theorem Dram.wf_forgetAll (m : Dram) : m.forgetAll.wf = true := rfl

theorem Dram.wf_forgetBuffer {m : Dram} (l : Lane) (b : Fin 2) (h : m.wf = true) : (m.forgetBuffer l b).wf = true :=
  Dram.wf_forget _ h

theorem State.reset_dram_wf : State.reset.dev.dram.wf = true := rfl

end Sys2Proof.Machine
end

