-- ==== Sys2Proof/Laws/State.lean ====
section
/-! SUPPORT. What each named update of the state leaves and changes, one lemma for each field and update. -/
namespace Sys2Proof.Machine

variable {d : Device} {e : Ev} {s : State} {k : Link} {l m : Lane} {i j : SlotId} {x : Slot} {n : Notice}
  {f : LaneUnit → LaneUnit} {g : Controller → Controller} {r : FieldRecord → FieldRecord}

/-! ## Lanes -/

@[simp] theorem Device.lane_modLane_self (d : Device) (l : Lane) (f : LaneUnit → LaneUnit) :
    (d.modLane l f).lane l = f (d.lane l) := by simp [Device.lane, Device.modLane]

theorem Device.lane_modLane_of_ne (d : Device) {l m : Lane} (f : LaneUnit → LaneUnit) (h : m ≠ l) :
    (d.modLane l f).lane m = d.lane m := by
  have h' : l.val ≠ m.val := fun c => h (Fin.ext c.symm)
  simp [Device.lane, Device.modLane, h']

theorem Device.lane_modLane (d : Device) (l m : Lane) (f : LaneUnit → LaneUnit) :
    (d.modLane l f).lane m = if m = l then f (d.lane l) else d.lane m := by
  split
  · subst m; exact d.lane_modLane_self l f
  · exact d.lane_modLane_of_ne f ‹_›

theorem Device.modLane_self (h : f (d.lane l) = d.lane l) : d.modLane l f = d := by
  have h' : f d.lanes[l.val] = d.lanes[l.val] := h
  simp [Device.modLane, h']

theorem Device.modLane_congr {g : LaneUnit → LaneUnit} (h : f (d.lane l) = g (d.lane l)) :
    d.modLane l f = d.modLane l g := by
  simp only [Device.modLane]
  rw [show f d.lanes[l] = g d.lanes[l] from h]

@[simp] theorem Device.modLane_modLane (d : Device) (l : Lane) (f g : LaneUnit → LaneUnit) :
    (d.modLane l f).modLane l g = d.modLane l fun u => g (f u) := by
  simp [Device.modLane]

@[simp] theorem Device.modLane_slots : (d.modLane l f).slots = d.slots := rfl
@[simp] theorem Device.modLane_freeList : (d.modLane l f).freeList = d.freeList := rfl
@[simp] theorem Device.modLane_dram : (d.modLane l f).dram = d.dram := rfl
@[simp] theorem Device.modLane_engine : (d.modLane l f).engine = d.engine := rfl
@[simp] theorem Device.modLane_handler : (d.modLane l f).handler = d.handler := rfl
@[simp] theorem Device.modLane_strap : (d.modLane l f).strap = d.strap := rfl
@[simp] theorem Device.modLane_slot : (d.modLane l f).slot i = d.slot i := rfl
@[simp] theorem Device.modLane_record : (d.modLane l f).record i = d.record i := rfl

/-! ## Slots -/

@[simp] theorem Device.slot_setSlot_self (d : Device) (i : SlotId) (x : Slot) : (d.setSlot i x).slot i = x := by
  simp [Device.slot, Device.setSlot]

theorem Device.slot_setSlot_of_ne (d : Device) {i j : SlotId} (x : Slot) (h : j ≠ i) :
    (d.setSlot i x).slot j = d.slot j := by
  have h' : i.val ≠ j.val := fun c => h (Fin.ext c.symm)
  simp [Device.slot, Device.setSlot, h']

theorem Device.slot_setSlot (d : Device) (i j : SlotId) (x : Slot) :
    (d.setSlot i x).slot j = if j = i then x else d.slot j := by
  split
  · subst j; exact d.slot_setSlot_self i x
  · exact d.slot_setSlot_of_ne x ‹_›

@[simp] theorem Device.setSlot_lanes : (d.setSlot i x).lanes = d.lanes := rfl
@[simp] theorem Device.setSlot_lane : (d.setSlot i x).lane l = d.lane l := rfl
@[simp] theorem Device.setSlot_freeList : (d.setSlot i x).freeList = d.freeList := rfl
@[simp] theorem Device.setSlot_dram : (d.setSlot i x).dram = d.dram := rfl
@[simp] theorem Device.setSlot_engine : (d.setSlot i x).engine = d.engine := rfl
@[simp] theorem Device.setSlot_handler : (d.setSlot i x).handler = d.handler := rfl
@[simp] theorem Device.setSlot_strap : (d.setSlot i x).strap = d.strap := rfl

@[simp] theorem Device.modRecord_lane : (d.modRecord i r).lane l = d.lane l := rfl
@[simp] theorem Device.modRecord_freeList : (d.modRecord i r).freeList = d.freeList := rfl
@[simp] theorem Device.modRecord_dram : (d.modRecord i r).dram = d.dram := rfl
@[simp] theorem Device.modRecord_engine : (d.modRecord i r).engine = d.engine := rfl
@[simp] theorem Device.modRecord_handler : (d.modRecord i r).handler = d.handler := rfl
@[simp] theorem Device.modRecord_strap : (d.modRecord i r).strap = d.strap := rfl

@[simp] theorem Device.takeRef_lane : (d.takeRef i).lane l = d.lane l := rfl
@[simp] theorem Device.takeRef_freeList : (d.takeRef i).freeList = d.freeList := rfl
@[simp] theorem Device.takeRef_dram : (d.takeRef i).dram = d.dram := rfl
@[simp] theorem Device.takeRef_engine : (d.takeRef i).engine = d.engine := rfl
@[simp] theorem Device.takeRef_handler : (d.takeRef i).handler = d.handler := rfl

@[simp] theorem Device.dropRef_lane : (d.dropRef i).lane l = d.lane l := rfl
@[simp] theorem Device.dropRef_freeList : (d.dropRef i).freeList = d.freeList := rfl
@[simp] theorem Device.dropRef_dram : (d.dropRef i).dram = d.dram := rfl
@[simp] theorem Device.dropRef_engine : (d.dropRef i).engine = d.engine := rfl
@[simp] theorem Device.dropRef_handler : (d.dropRef i).handler = d.handler := rfl

@[simp] theorem Device.freeSlot_lane : (d.freeSlot i).lane l = d.lane l := rfl
@[simp] theorem Device.freeSlot_freeList : (d.freeSlot i).freeList = d.freeList ++ [i] := rfl
@[simp] theorem Device.freeSlot_dram : (d.freeSlot i).dram = d.dram := rfl
@[simp] theorem Device.freeSlot_engine : (d.freeSlot i).engine = d.engine := rfl
@[simp] theorem Device.freeSlot_handler : (d.freeSlot i).handler = d.handler := rfl

/-! ## Events -/

@[simp] theorem Ev.modLane_dev : (e.modLane l f).dev = e.dev.modLane l f := rfl
@[simp] theorem Ev.modLane_notes : (e.modLane l f).notes = e.notes := rfl
@[simp] theorem Ev.modOp_dev : (e.modOp l g).dev = e.dev.modLane l fun u => { u with op := g u.op } := rfl
@[simp] theorem Ev.modOp_notes : (e.modOp l g).notes = e.notes := rfl
@[simp] theorem Ev.modDev_dev (p : Device → Device) : (e.modDev p).dev = p e.dev := rfl
@[simp] theorem Ev.modDev_notes (p : Device → Device) : (e.modDev p).notes = e.notes := rfl
@[simp] theorem Device.setDram_lane (c : Dram) : (d.setDram c).lane l = d.lane l := rfl
@[simp] theorem Device.setDram_slot (c : Dram) : (d.setDram c).slot i = d.slot i := rfl
@[simp] theorem Device.setDram_record (c : Dram) : (d.setDram c).record i = d.record i := rfl
@[simp] theorem Device.setDram_dram (c : Dram) : (d.setDram c).dram = c := rfl
@[simp] theorem Device.setDram_freeList (c : Dram) : (d.setDram c).freeList = d.freeList := rfl
@[simp] theorem Device.setDram_engine (c : Dram) : (d.setDram c).engine = d.engine := rfl
@[simp] theorem Device.setDram_handler (c : Dram) : (d.setDram c).handler = d.handler := rfl
@[simp] theorem Ev.setDram_dev (c : Dram) : (e.setDram c).dev = e.dev.setDram c := rfl
@[simp] theorem Ev.setDram_notes (c : Dram) : (e.setDram c).notes = e.notes := rfl
@[simp] theorem Ev.note_dev : (e.note n).dev = e.dev := rfl
@[simp] theorem Ev.note_notes : (e.note n).notes = e.notes ++ [n] := rfl
@[simp] theorem Ev.start_dev : (Ev.start d).dev = d := rfl
@[simp] theorem Ev.start_notes : (Ev.start d).notes = [] := rfl

/-! ## Events that issue no notice, and their answers -/

theorem Ev.commit_of_notes_nil (h : e.notes = []) (k : Link) : e.commit k = (e.dev, k) := by
  simp [Ev.commit, orderNotices, h]

@[simp] theorem Ev.commit_start (d : Device) (k : Link) : (Ev.start d).commit k = (d, k) :=
  Ev.commit_of_notes_nil rfl k

theorem State.event_of_notes_nil {f : Ev → Ev} (h : (f (Ev.start s.dev)).notes = []) :
    s.event f = { s with dev := (f (Ev.start s.dev)).dev } := by
  simp [State.event, Ev.commit_of_notes_nil h]

/-- An event whose one notice is a completion, of a lane that has none in the queue. -/
theorem Ev.commit_of_completion {c : Completion} (h : e.notes = [.completion c]) {k : Link}
    (hk : k.hasCompletion c.lane = false) : e.commit k = (e.dev, k.join (.notice (.completion c))) := by
  simp [Ev.commit, orderNotices, h, Notice.rank, issueNotice, issueCompletion, hk]

theorem State.event_of_completion {f : Ev → Ev} {c : Completion}
    (h : (f (Ev.start s.dev)).notes = [.completion c]) (hk : s.link.hasCompletion c.lane = false) :
    s.event f =
      { s with dev := (f (Ev.start s.dev)).dev, link := s.link.join (.notice (.completion c)) } := by
  simp [State.event, Ev.commit_of_completion h hk]

@[simp] theorem State.event_pending (s : State) (f : Ev → Ev) : (s.event f).pending = s.pending := rfl
@[simp] theorem State.reset_dev : State.reset.dev = Device.powerOn := rfl
@[simp] theorem State.reset_link : State.reset.link = Link.powerOn := rfl
@[simp] theorem State.reset_pending : State.reset.pending = [] := rfl

@[simp] theorem Device.lane_powerOn (l : Lane) : Device.powerOn.lane l = LaneUnit.powerOn := by
  simp [Device.lane, Device.powerOn]

@[simp] theorem Device.slot_powerOn (i : SlotId) : Device.powerOn.slot i = Slot.empty := by
  simp [Device.slot, Device.powerOn]

/-! ## The link -/

variable {msg : Message}

@[simp] theorem Link.join_outbound : (k.join msg).outbound = k.outbound ++ [⟨msg, none⟩] := rfl
@[simp] theorem Link.join_requests : (k.join msg).requests = k.requests := rfl
@[simp] theorem Link.join_flags : (k.join msg).flags = k.flags := rfl
@[simp] theorem Link.join_inFlight : (k.join msg).inFlight = k.inFlight := rfl
@[simp] theorem Link.join_receiver : (k.join msg).receiver = k.receiver := rfl
@[simp] theorem Link.join_selected : (k.join msg).selected = k.selected := rfl
@[simp] theorem Link.join_byteTime : (k.join msg).byteTime = k.byteTime := rfl

end Sys2Proof.Machine
end

