-- ==== Sys2Proof/Laws/Frames.lean ====
section
/-! SUPPORT. What the events of one lane leave alone: the other lanes, the Request Handler and the strap, and the notices of
other lanes. One equation for each operation. -/
namespace Sys2Proof.Machine

/-- What of the part lies outside lane `l` and its slots: the handler, the strap and the other lanes. -/
def Device.outside (l : Lane) (d : Device) : Handler × Bool × ({k : Lane // k ≠ l} → LaneUnit) :=
  (d.handler, d.strap, fun k => d.lane k.1)

/-- The lane a notice belongs to. -/
def Notice.lane : Notice → Lane
  | .lock l _ _ => l
  | .cadence l _ _ _ => l
  | .overrun l _ => l
  | .completion c => c.lane

/-- The notices of other lanes than `l`. -/
def foreign (l : Lane) (ns : List Notice) : List Notice := ns.filter fun n => n.lane ≠ l

/-- What of an event lies outside lane `l`. -/
def Ev.outside (l : Lane) (e : Ev) : (Handler × Bool × ({k : Lane // k ≠ l} → LaneUnit)) × List Notice :=
  (e.dev.outside l, foreign l e.notes)

variable {l : Lane} {d : Device} {e : Ev}

/-! ## The part -/

theorem Device.outside_of_lanes {d e : Device} (h1 : e.handler = d.handler) (h2 : e.strap = d.strap)
    (h3 : e.lanes = d.lanes) : e.outside l = d.outside l := by
  simp [Device.outside, Device.lane, h1, h2, h3]

@[simp] theorem Device.outside_modLane (d : Device) (l : Lane) (f : LaneUnit → LaneUnit) :
    (d.modLane l f).outside l = d.outside l := by
  simp only [Device.outside, Device.modLane_handler, Device.modLane_strap]
  congr 2
  funext k
  exact d.lane_modLane_of_ne f k.2

@[simp] theorem Device.outside_setSlot (i : SlotId) (x : Slot) : (d.setSlot i x).outside l = d.outside l := rfl
@[simp] theorem Device.outside_modRecord (i : SlotId) (f : FieldRecord → FieldRecord) :
    (d.modRecord i f).outside l = d.outside l := rfl
@[simp] theorem Device.outside_takeRef (i : SlotId) : (d.takeRef i).outside l = d.outside l := rfl
@[simp] theorem Device.outside_dropRef (i : SlotId) : (d.dropRef i).outside l = d.outside l := rfl
@[simp] theorem Device.outside_freeSlot (i : SlotId) : (d.freeSlot i).outside l = d.outside l := rfl
@[simp] theorem Device.outside_setDram (m : Dram) : ({ d with dram := m } : Device).outside l = d.outside l := rfl
@[simp] theorem Device.outside_setEngine (x : Engine) : ({ d with engine := x } : Device).outside l = d.outside l := rfl
@[simp] theorem Device.outside_setFreeList (x : List SlotId) :
    ({ d with freeList := x } : Device).outside l = d.outside l := rfl

theorem Device.outside_foldl {α : Type} (f : Device → α → Device) (h : ∀ d a, (f d a).outside l = d.outside l)
    (as : List α) (d : Device) : (as.foldl f d).outside l = d.outside l := by
  induction as generalizing d with
  | nil => rfl
  | cons a as ih => exact (ih _).trans (h d a)

@[simp] theorem Device.outside_giveBack (d : Device) (a b : List SlotId) : (d.giveBack a b).outside l = d.outside l :=
  (Device.outside_foldl Device.freeSlot (fun _ _ => rfl) _ _).trans
    (Device.outside_foldl Device.dropRef (fun _ _ => rfl) _ _)

@[simp] theorem Device.outside_readyWaiting (d : Device) (n : Option SlotId) :
    (d.readyWaiting l n).outside l = d.outside l := by
  unfold Device.readyWaiting
  split
  · rfl
  · cases n <;> simp

@[simp] theorem Device.outside_joinWindow (d : Device) (i : SlotId) : (d.joinWindow l i).outside l = d.outside l := by
  unfold Device.joinWindow
  split <;> simp

@[simp] theorem Device.outside_createJob (d : Device) (i : SlotId) (r : FieldRecord) (x : Snapshot) (b : Bool) :
    (d.createJob l i r x b).outside l = d.outside l := by
  unfold Device.createJob
  rw [Device.outside_modLane]
  exact Device.outside_foldl Device.takeRef (fun _ _ => rfl) _ _

theorem Device.runningOf_lane {j : Job} (h : d.runningOf l = some j) : d.engine.running = some j ∧ j.lane = l := by
  unfold Device.runningOf at h
  split at h
  · rename_i j' he
    split at h
    · cases h; exact ⟨he, ‹_›⟩
    · cases h
  · cases h

@[simp] theorem Device.outside_cutRunning (d : Device) : (d.cutRunning l).outside l = d.outside l := by
  unfold Device.cutRunning
  split
  · rename_i j hj
    obtain rfl := (Device.runningOf_lane hj).2
    rw [Device.outside_setEngine]
    unfold Device.returnBuffer
    split
    · rw [Device.outside_setDram, Device.outside_modLane]
    · rfl
  · rfl

@[simp] theorem Device.outside_discardJobs (d : Device) (a b : List SlotId) :
    (d.discardJobs l a b).outside l = d.outside l := by
  unfold Device.discardJobs
  simp

/-! ## Events -/

theorem Ev.outside_modDev {f : Device → Device} (h : (f e.dev).outside l = e.dev.outside l) :
    (e.modDev f).outside l = e.outside l := by
  simp [Ev.outside, Ev.modDev, h]

@[simp] theorem Ev.outside_setDram (m : Dram) : (e.setDram m).outside l = e.outside l := rfl
@[simp] theorem Ev.outside_modRecord (i : SlotId) (f : FieldRecord → FieldRecord) :
    (e.modDev fun d => d.modRecord i f).outside l = e.outside l := rfl
@[simp] theorem Ev.outside_giveBack (a b : List SlotId) :
    (e.modDev fun d => d.giveBack a b).outside l = e.outside l := Ev.outside_modDev (Device.outside_giveBack _ a b)
@[simp] theorem Ev.outside_joinWindow (i : SlotId) :
    (e.modDev fun d => d.joinWindow l i).outside l = e.outside l := Ev.outside_modDev (Device.outside_joinWindow _ i)
@[simp] theorem Ev.outside_createJob (i : SlotId) (r : FieldRecord) (x : Snapshot) (b : Bool) :
    (e.modDev fun d => d.createJob l i r x b).outside l = e.outside l :=
  Ev.outside_modDev (Device.outside_createJob _ i r x b)
@[simp] theorem Ev.outside_discardJobs (a b : List SlotId) :
    (e.modDev fun d => d.discardJobs l a b).outside l = e.outside l :=
  Ev.outside_modDev (Device.outside_discardJobs _ a b)
@[simp] theorem Ev.outside_takeSlot (i : SlotId) (q : Nat) (p : Parity) (b : Bool) :
    (e.modDev fun d => d.takeSlot l i q p b).outside l = e.outside l :=
  Ev.outside_modDev (Device.outside_modLane _ l _)

@[simp] theorem Ev.outside_modLane (f : LaneUnit → LaneUnit) : (e.modLane l f).outside l = e.outside l :=
  Ev.outside_modDev (f := fun d => d.modLane l f) (Device.outside_modLane _ l f)
@[simp] theorem Ev.outside_modOp (f : Controller → Controller) : (e.modOp l f).outside l = e.outside l :=
  Ev.outside_modLane _
@[simp] theorem Ev.outside_modIngest (f : IngestLane → IngestLane) : (e.modIngest l f).outside l = e.outside l :=
  Ev.outside_modLane _
@[simp] theorem Ev.outside_modChannel (f : Channel → Channel) : (e.modChannel l f).outside l = e.outside l :=
  Ev.outside_modLane _
@[simp] theorem Ev.outside_setChain (c : Option ChainField) : (e.setChain l c).outside l = e.outside l :=
  Ev.outside_modLane _

theorem Ev.outside_note {n : Notice} (h : n.lane = l) : (e.note n).outside l = e.outside l := by
  simp [Ev.outside, Ev.note, foreign, h]

@[simp] theorem Ev.outside_lock (x : LaneState) (q : Nat) : (e.note (.lock l x q)).outside l = e.outside l :=
  Ev.outside_note rfl
@[simp] theorem Ev.outside_cadence (x : Tracker) (p : Option Nat) (q : Nat) :
    (e.note (.cadence l x p q)).outside l = e.outside l := Ev.outside_note rfl
@[simp] theorem Ev.outside_overrun (q : Nat) : (e.note (.overrun l q)).outside l = e.outside l := Ev.outside_note rfl
@[simp] theorem Ev.outside_completion (op : Controller) (p : OpPart) :
    (e.note (.completion (op.record l p))).outside l = e.outside l := Ev.outside_note rfl

@[simp] theorem Ev.outside_setMonitor (m : Monitor) (q : Nat) : (e.setMonitor l m q).outside l = e.outside l := by
  unfold Ev.setMonitor
  dsimp only
  split <;> simp

@[simp] theorem Ev.outside_resetTracker (q : Nat) : (e.resetTracker l q).outside l = e.outside l := by
  simp [Ev.resetTracker]

@[simp] theorem Ev.outside_complete (p : OpPart) : (e.complete l p).outside l = e.outside l := by
  simp [Ev.complete]

@[simp] theorem Ev.outside_endNow (c : EndClass) (x : Option Cause) (p : OpPart) :
    (e.endNow l c x p).outside l = e.outside l := by simp [Ev.endNow]

@[simp] theorem Ev.outside_settle : (e.settle l).outside l = e.outside l := by
  unfold Ev.settle
  split
  · split <;> simp
  · rfl

@[simp] theorem Ev.outside_endTransfer (c : EndClass) (x : Option Cause) :
    (e.endTransfer l c x).outside l = e.outside l := by simp [Ev.endTransfer]

@[simp] theorem Ev.outside_readyWaiting (n : Option SlotId) : (e.readyWaiting l n).outside l = e.outside l := by
  exact Ev.outside_modDev (Device.outside_readyWaiting _ n)

@[simp] theorem Ev.outside_sourceChange (x : LaneState) : (e.sourceChange l x).outside l = e.outside l := by
  unfold Ev.sourceChange
  dsimp only
  split <;> simp

@[simp] theorem Ev.outside_lockLoss (x : LaneState) (k : Option Nat) : (e.lockLoss l x k).outside l = e.outside l := by
  unfold Ev.lockLoss
  dsimp only
  split
  · split <;> simp
  · simp

@[simp] theorem Ev.outside_discontinuity (q : Nat) : (e.discontinuity l q).outside l = e.outside l := by
  simp [Ev.discontinuity]

@[simp] theorem Ev.outside_acquired : (e.acquired l).outside l = e.outside l := by
  unfold Ev.acquired
  split <;> simp

@[simp] theorem Ev.outside_abort : (e.abort l).outside l = e.outside l := by
  unfold Ev.abort
  split <;> simp

/-! ## The completion chain -/

@[simp] theorem Ev.outside_repairField (i : SlotId) : (e.repairField l i).outside l = e.outside l := by
  unfold Ev.repairField
  split
  · rfl
  · simp

@[simp] theorem Ev.outside_judgeLabel (i : SlotId) : (e.judgeLabel l i).outside l = e.outside l := by
  unfold Ev.judgeLabel
  split
  · rfl
  · simp

@[simp] theorem Ev.outside_monitorField (i : SlotId) : (e.monitorField l i).outside l = e.outside l := by
  unfold Ev.monitorField
  split
  · rfl
  · simp

@[simp] theorem Ev.outside_cueField (r : FieldRecord) (m : CueMode) (t x : Nat) :
    (e.cueField l r m t x).outside l = e.outside l := by
  unfold Ev.cueField
  dsimp only
  repeat' split
  all_goals simp

@[simp] theorem Ev.outside_scanField (r : FieldRecord) (p : ScanParams) :
    (e.scanField l r p).outside l = e.outside l := by
  unfold Ev.scanField
  dsimp only
  repeat' split
  all_goals simp

@[simp] theorem Ev.outside_testEnd (r : FieldRecord) : (e.testEnd l r).outside l = e.outside l := by
  unfold Ev.testEnd
  dsimp only
  repeat' split
  all_goals simp

@[simp] theorem Ev.outside_dueJob (i : SlotId) (r : FieldRecord) (p : TransferParams) :
    (e.dueJob l i r p).outside l = e.outside l := by
  unfold Ev.dueJob
  dsimp only
  repeat' split
  all_goals simp

@[simp] theorem Ev.outside_judgeRunning (i : SlotId) (r : FieldRecord) (p : TransferParams) (b : Bool) :
    (e.judgeRunning l i r p b).outside l = e.outside l := by
  unfold Ev.judgeRunning
  dsimp only
  repeat' split
  all_goals simp

@[simp] theorem Ev.outside_judgeArmed (i : SlotId) (r : FieldRecord) (p : TransferParams) :
    (e.judgeArmed l i r p).outside l = e.outside l := by
  unfold Ev.judgeArmed
  dsimp only
  repeat' split
  all_goals simp

@[simp] theorem Ev.outside_operationField (i : SlotId) (r : FieldRecord) :
    (e.operationField l i r).outside l = e.outside l := by
  unfold Ev.operationField
  split <;> simp

@[simp] theorem Ev.outside_takeField (i : SlotId) : (e.takeField l i).outside l = e.outside l := by
  unfold Ev.takeField
  split
  · rfl
  · simp

@[simp] theorem Ev.outside_chainStep : (e.chainStep l).outside l = e.outside l := by
  unfold Ev.chainStep
  split <;> simp

@[simp] theorem Ev.outside_chainStage (x : ChainStage) : (e.chainStage l x).outside l = e.outside l := by
  unfold Ev.chainStage
  repeat' split
  all_goals simp

@[simp] theorem Ev.outside_finishChain : (e.finishChain l).outside l = e.outside l := by
  simp [Ev.finishChain]

/-! ## The Ingest Lane -/

@[simp] theorem Ev.outside_setLaneState (x : LaneState) (q : Nat) : (e.setLaneState l x q).outside l = e.outside l := by
  simp [Ev.setLaneState]

@[simp] theorem Ev.outside_resetLaneBlocks (q : Nat) : (e.resetLaneBlocks l q).outside l = e.outside l := by
  simp [Ev.resetLaneBlocks]

@[simp] theorem Ev.outside_enableLane (q : Nat) : (e.enableLane l q).outside l = e.outside l := by
  simp [Ev.enableLane]

@[simp] theorem Ev.outside_lockedClose (b : Bool) (k : Option Nat) (q : Nat) :
    (e.lockedClose l b k q).outside l = e.outside l := by
  unfold Ev.lockedClose
  repeat' split
  all_goals simp

@[simp] theorem Ev.outside_seekingClose (b : Bool) (q : Nat) : (e.seekingClose l b q).outside l = e.outside l := by
  unfold Ev.seekingClose
  dsimp only
  repeat' split
  all_goals simp

@[simp] theorem Ev.outside_keepField (i : SlotId) (f : OpenField) : (e.keepField l i f).outside l = e.outside l := by
  unfold Ev.keepField
  simp

@[simp] theorem Ev.outside_closeLocked (f : OpenField) (p : Option Parity) (w : Bool) (q : Nat) :
    (e.closeLocked l f p w q).ev.outside l = e.outside l := by
  unfold Ev.closeLocked
  dsimp only
  repeat' split
  all_goals simp

@[simp] theorem Ev.outside_closeOpenField (w : Bool) (q : Nat) :
    (e.closeOpenField l w q).ev.outside l = e.outside l := by
  unfold Ev.closeOpenField
  dsimp only
  repeat' split
  all_goals simp

@[simp] theorem Ev.outside_stopOnDrop : (e.stopOnDrop l).outside l = e.outside l := by
  unfold Ev.stopOnDrop
  repeat' split
  all_goals simp

@[simp] theorem Ev.outside_openEpisode (q : Nat) : (e.openEpisode l q).outside l = e.outside l := by
  unfold Ev.openEpisode
  split <;> simp

@[simp] theorem Ev.outside_dropField (q : Nat) : (e.dropField l q).outside l = e.outside l := by simp [Ev.dropField]

@[simp] theorem Ev.outside_intake (q : Nat) (p : Parity) (b : Bool) : (e.intake l q p b).outside l = e.outside l := by
  unfold Ev.intake
  split
  · simp
  · simp

@[simp] theorem Ev.outside_reenterLane (x : List SlotId) : (e.reenterLane l x).outside l = e.outside l := by
  unfold Ev.reenterLane
  dsimp only
  split <;> simp

@[simp] theorem Ev.outside_reportFieldStart : (e.reportFieldStart l).outside l = e.outside l := by
  unfold Ev.reportFieldStart
  dsimp only
  repeat' split
  all_goals simp

@[simp] theorem Ev.outside_openNewField (q : Nat) (p : Parity) (b : Bool) :
    (e.openNewField l q p b).outside l = e.outside l := by
  unfold Ev.openNewField
  dsimp only
  split <;> simp

@[simp] theorem Ev.outside_fieldStartEnabled (p : Parity) (b : Bool) :
    (e.fieldStartEnabled l p b).outside l = e.outside l := by
  unfold Ev.fieldStartEnabled
  dsimp only
  simp only [Ev.outside_openNewField]
  repeat' split
  all_goals simp

@[simp] theorem Ev.outside_watch (f : LineWatch → LineWatch) : (e.watch l f).outside l = e.outside l := by
  simp [Ev.watch]

@[simp] theorem Ev.outside_fieldStart (p : Parity) (b : Bool) : (e.fieldStart l p b).outside l = e.outside l := by
  unfold Ev.fieldStart
  split <;> simp

@[simp] theorem Ev.outside_withOpenField (f : Standard → Dram → OpenField → OpenField × Dram) :
    (e.withOpenField l f).outside l = e.outside l := by
  unfold Ev.withOpenField
  dsimp only
  split <;> simp

@[simp] theorem Ev.outside_lineStart : (e.lineStart l).outside l = e.outside l := by
  unfold Ev.lineStart
  split <;> simp

@[simp] theorem Ev.outside_sampleWord (v : Sample) (a b : Bool) : (e.sampleWord l v a b).outside l = e.outside l := by
  unfold Ev.sampleWord
  repeat' split
  all_goals simp

@[simp] theorem Ev.outside_labelWord (w : LabelWord) : (e.labelWord l w).outside l = e.outside l := by
  unfold Ev.labelWord
  split <;> simp

@[simp] theorem Ev.outside_loseSignal : (e.loseSignal l).outside l = e.outside l := by
  unfold Ev.loseSignal
  dsimp only
  split <;> simp

@[simp] theorem Ev.outside_timerExpiry : (e.timerExpiry l).outside l = e.outside l := by
  unfold Ev.timerExpiry
  dsimp only
  split <;> simp

@[simp] theorem Ev.outside_releaseLane : (e.releaseLane l).outside l = e.outside l := by
  unfold Ev.releaseLane
  dsimp only
  split <;> simp

/-! ## Operations, sends and timers -/

@[simp] theorem Ev.outside_waitExpiry : (e.waitExpiry l).outside l = e.outside l := by
  unfold Ev.waitExpiry
  dsimp only
  repeat' split
  all_goals simp

@[simp] theorem Ev.outside_windowEnd (b : SeenLevels) : (e.windowEnd l b).outside l = e.outside l := by
  unfold Ev.windowEnd
  split <;> simp

@[simp] theorem Ev.outside_sendCompletion : (e.sendCompletion l).outside l = e.outside l := by
  unfold Ev.sendCompletion
  split <;> simp

@[simp] theorem Ev.outside_amend (x : SubState) (p : TransferParams) (t : TransferEnd) :
    (e.amend l x p t).outside l = e.outside l := by
  unfold Ev.amend
  dsimp only
  split <;> simp

/-- What the end of a lane's event adds outside the lane: nothing. -/
theorem Ev.outside_commit {f : Ev} (h : f.outside l = (Ev.start d).outside l) (k : Link) :
    (f.commit k).1.outside l = d.outside l := by
  have hd : f.dev.outside l = d.outside l := congrArg Prod.fst h
  have hn : ∀ n ∈ orderNotices f.notes, n.lane = l := by
    have hf : foreign l f.notes = [] := congrArg Prod.snd h
    intro n hn
    have hm : n ∈ f.notes := by
      simp only [orderNotices, List.mem_append, List.mem_filter] at hn; tauto
    simp only [foreign, List.filter_eq_nil_iff] at hf
    simpa using hf n hm
  unfold Ev.commit
  revert hn
  generalize orderNotices f.notes = ns
  intro hn
  suffices H : ∀ p : Device × Link, (ns.foldl issueNotice p).1.outside l = p.1.outside l from (H _).trans hd
  induction ns with
  | nil => exact fun p => rfl
  | cons n ns ih =>
    intro p
    refine (ih (fun m hm => hn m (List.mem_cons_of_mem _ hm)) (issueNotice p n)).trans ?_
    have hl := hn n List.mem_cons_self
    cases n with
    | lock a b c => rfl
    | cadence a b c x => rfl
    | overrun a b => rfl
    | completion c =>
      show (issueCompletion p.1 p.2 c).1.outside l = _
      unfold issueCompletion
      obtain rfl : c.lane = l := hl
      split
      · simp
      · rfl

end Sys2Proof.Machine
end

