-- ==== Sys2Proof/Laws/Lane.lean ====
section
/-! SUPPORT. What the label judgement and the line test's watch come to. -/

namespace Sys2Proof.Machine
variable {w : LabelWord} {mode : TcMode} {c : Counting}

/-- A label that is not present is ABSENT (R21). -/
@[simp] theorem validate_of_not_valid (h : w.valid = false) : w.validate mode c = .absent := by
  simp [LabelWord.validate, h]

/-- Under timecode mode NONE every label is ABSENT (R21). -/
@[simp] theorem validate_tcNone : w.validate .none c = .absent := by simp [LabelWord.validate]

variable {dec : LabelDecoder} {set : Settings} {seq : Nat} {parity : Parity}

/-! ## The label judgement (R18 to R29) -/

/-- The result of a judgement is that of the label's checks. -/
theorem LabelDecoder.judge_result :
    (dec.judge set seq parity w).result = w.validate set.tcMode (countingOf set.standard set.tcMode w.dropFrame) := by
  simp only [LabelDecoder.judge]
  generalize w.validate set.tcMode (countingOf set.standard set.tcMode w.dropFrame) = res
  cases res <;> simp only [] <;> split <;> rfl

/-- The whole judgement of an ABSENT label: the flywheel's index, or none with the counting of an absent label (R21, R26,
log entry 23). -/
theorem LabelDecoder.judge_of_absent
    (h : w.validate set.tcMode (countingOf set.standard set.tcMode w.dropFrame) = .absent) :
    dec.judge set seq parity w =
      match dec.flywheel set.flywheelLimit seq with
      | some (ix, fc) => ⟨.absent, fc, some ix, .flywheel, dec.isGap seq ix⟩
      | none => ⟨.absent, absentCounting set.standard set.tcMode seq, none, .absent, false⟩ := by
  simp only [LabelDecoder.judge, h]
  cases dec.flywheel set.flywheelLimit seq <;> simp

/-! ## The line test's watch (R158) -/

variable {lw : LineWatch} {p : Parity} {seen : SeenLevels}

@[simp] theorem LineWatch.fieldStart_sampleSeen : (lw.fieldStart p).sampleSeen = lw.sampleSeen := rfl
@[simp] theorem LineWatch.fieldStart_highSeen : (lw.fieldStart p).highSeen = true := rfl
@[simp] theorem LineWatch.fieldStart_lowSeen : (lw.fieldStart p).lowSeen = true := rfl
@[simp] theorem LineWatch.fieldStart_fieldStarts : (lw.fieldStart p).fieldStarts = lw.fieldStarts + 1 := rfl
@[simp] theorem LineWatch.noteLevels_sampleSeen : (lw.noteLevels seen).sampleSeen = lw.sampleSeen := rfl
@[simp] theorem LineWatch.noteLevels_fieldStarts : (lw.noteLevels seen).fieldStarts = lw.fieldStarts := rfl
@[simp] theorem LineWatch.noteLevels_parity0Seen : (lw.noteLevels seen).parity0Seen = lw.parity0Seen := rfl
@[simp] theorem LineWatch.noteLevels_parity1Seen : (lw.noteLevels seen).parity1Seen = lw.parity1Seen := rfl

/-- Levels that the window's end shows besides the pulses. -/
@[simp] theorem LineWatch.noteLevels_highSeen :
    (lw.noteLevels seen).highSeen = (lw.highSeen || decide (seen ≠ .lowOnly)) := rfl

@[simp] theorem LineWatch.noteLevels_lowSeen :
    (lw.noteLevels seen).lowSeen = (lw.lowSeen || decide (seen ≠ .highOnly)) := rfl

end Sys2Proof.Machine
end

