-- ==== Sys2Proof/Laws/Link.lean ====
section
/-! SUPPORT. The Control Link Interface: what joining, issuing, sending and receiving do to the outbound queue and to the
request queue. -/
namespace Sys2Proof.Machine

/-! ## Counting records -/

theorem Link.replies_join (k : Link) (m : Message) :
    (k.join m).replies = k.replies + if m.isReply then 1 else 0 := by
  simp only [Link.replies, Link.join, List.filter_append, List.length_append]
  cases h : m.isReply <;> simp [h]

theorem Link.generals_join (k : Link) (m : Message) :
    (k.join m).generals = k.generals + if m.isGeneral then 1 else 0 := by
  simp only [Link.generals, Link.join, List.filter_append, List.length_append]
  cases h : m.isGeneral <;> simp [h]

theorem Link.completionsOf_join (k : Link) (m : Message) (l : Lane) :
    (k.join m).completionsOf l = k.completionsOf l + if m.isCompletionOf l then 1 else 0 := by
  simp only [Link.completionsOf, Link.join, List.filter_append, List.length_append]
  cases h : m.isCompletionOf l <;> simp [h]

theorem Link.hasCompletion_eq_false {k : Link} {l : Lane} : k.hasCompletion l = false ↔ k.completionsOf l = 0 := by
  simp [Link.hasCompletion, Link.completionsOf, List.any_eq_false, List.length_eq_zero_iff, List.filter_eq_nil_iff]

/-- A message is of exactly one class: a reply, a general notice, or a completion of one lane (Table 69). -/
theorem Message.class_cases (m : Message) :
    (m.isReply = true ∧ m.isGeneral = false ∧ ∀ l, m.isCompletionOf l = false) ∨
      (m.isReply = false ∧ m.isGeneral = true ∧ ∀ l, m.isCompletionOf l = false) ∨
        (m.isReply = false ∧ m.isGeneral = false ∧ ∃ c, m = .notice (.completion c)) := by
  rcases m with _ | n | r
  · exact .inr (.inl ⟨rfl, rfl, fun _ => rfl⟩)
  · cases n
    · exact .inr (.inl ⟨rfl, rfl, fun _ => rfl⟩)
    · exact .inr (.inl ⟨rfl, rfl, fun _ => rfl⟩)
    · exact .inr (.inl ⟨rfl, rfl, fun _ => rfl⟩)
    · exact .inr (.inr ⟨rfl, rfl, _, rfl⟩)
  · exact .inl ⟨rfl, rfl, fun _ => rfl⟩

/-- What a queue loses with its head: no class grows. -/
theorem Link.classesOk_tail {k : Link} (h : k.classesOk) : ({ k with outbound := k.outbound.tail } : Link).classesOk := by
  have hs : k.outbound.tail.Sublist k.outbound := List.tail_sublist _
  refine ⟨?_, ?_, fun l => ?_⟩
  · exact le_trans (hs.filter _).length_le h.1
  · exact le_trans (hs.filter _).length_le h.2.1
  · exact le_trans (hs.filter _).length_le (h.2.2 l)

/-! ## Issuing notices (R169 to R171) -/

/-- Everything that offering a general notice can do: it is masked, lost, or joins the tail (R170). -/
theorem Link.offerGeneral_cases (k : Link) (mask : NoticeMask) (n : Notice) :
    (mask.enables n = false ∧ k.offerGeneral mask n = k) ∨
      (mask.enables n = true ∧ 8 ≤ k.generals ∧
        k.offerGeneral mask n = { k with flags := { k.flags with noticesLost := true } }) ∨
        (mask.enables n = true ∧ k.generals < 8 ∧ k.offerGeneral mask n = k.join (.notice n)) := by
  unfold Link.offerGeneral
  cases h : mask.enables n
  · exact .inl ⟨rfl, rfl⟩
  · by_cases hg : 8 ≤ k.generals
    · exact .inr (.inl ⟨rfl, hg, by simp [Config.generalPlaces, hg]⟩)
    · exact .inr (.inr ⟨rfl, by omega, by simp [Config.generalPlaces, hg]⟩)

/-- Everything that issuing a completion can do: it is held while the lane's previous one is queued, or joins (R171). -/
theorem issueCompletion_cases (d : Device) (k : Link) (c : Completion) :
    (k.hasCompletion c.lane = true ∧
        issueCompletion d k c = (d.modLane c.lane fun u => { u with op := { u.op with held := some c } }, k)) ∨
      (k.hasCompletion c.lane = false ∧ issueCompletion d k c = (d, k.join (.notice (.completion c)))) := by
  unfold issueCompletion
  cases h : k.hasCompletion c.lane <;> simp

/-- What issuing notices does to the link, and to the handler: the classes stay, no reply joins, the request queue and the
record in flight stay, and a head that is there stays the head. -/
def IssueFrame (p q : Device × Link) : Prop :=
  (p.2.classesOk → q.2.classesOk) ∧ q.2.replies = p.2.replies ∧ q.2.requests = p.2.requests ∧
    q.2.inFlight = p.2.inFlight ∧ (p.2.outbound ≠ [] → q.2.outbound.head? = p.2.outbound.head?) ∧
      q.1.handler = p.1.handler

theorem IssueFrame.refl (p : Device × Link) : IssueFrame p p := ⟨id, rfl, rfl, rfl, fun _ => rfl, rfl⟩

theorem IssueFrame.trans {p q r : Device × Link} (h : IssueFrame p q) (h' : IssueFrame q r) : IssueFrame p r := by
  obtain ⟨a1, a2, a3, a4, a5, a6⟩ := h
  obtain ⟨b1, b2, b3, b4, b5, b6⟩ := h'
  refine ⟨fun h => b1 (a1 h), b2.trans a2, b3.trans a3, b4.trans a4, fun h => ?_, b6.trans a6⟩
  have h1 := a5 h
  have h2 : q.2.outbound ≠ [] := by
    intro hn
    rw [hn] at h1
    cases hp : p.2.outbound with
    | nil => exact h hp
    | cons x xs => rw [hp] at h1; simp at h1
  exact (b5 h2).trans h1

/-- A message that is no reply joins the queue without breaking a class. -/
theorem IssueFrame.join (d : Device) (k : Link) (n : Notice)
    (hg : (Message.notice n).isGeneral = true → k.generals < 8)
    (hc : ∀ l, (Message.notice n).isCompletionOf l = true → k.completionsOf l = 0) :
    IssueFrame (d, k) (d, k.join (.notice n)) := by
  refine ⟨fun h => ⟨?_, ?_, fun l => ?_⟩, ?_, rfl, rfl, fun hne => ?_, rfl⟩
  · show (k.join _).replies ≤ 4
    rw [Link.replies_join]; simpa [Message.isReply] using h.1
  · show (k.join _).generals ≤ 8
    rw [Link.generals_join]
    have := h.2.1
    split
    · have := hg ‹_›; omega
    · simpa using this
  · show (k.join _).completionsOf l ≤ 1
    rw [Link.completionsOf_join]
    have := h.2.2 l
    split
    · have := hc l ‹_›; omega
    · simpa using this
  · show (k.join _).replies = k.replies
    rw [Link.replies_join]; simp [Message.isReply]
  · show (k.outbound ++ _).head? = k.outbound.head?
    cases h : k.outbound with
    | nil => exact absurd h hne
    | cons x xs => rfl

theorem IssueFrame.offer (d : Device) (k : Link) (mask : NoticeMask) (n : Notice)
    (hc : ∀ l, (Message.notice n).isCompletionOf l = false) : IssueFrame (d, k) (d, k.offerGeneral mask n) := by
  rcases k.offerGeneral_cases mask n with ⟨-, e⟩ | ⟨-, -, e⟩ | ⟨-, hlt, e⟩
  · rw [e]; exact .refl _
  · rw [e]; exact ⟨id, rfl, rfl, rfl, fun _ => rfl, rfl⟩
  · rw [e]; exact .join d k n (fun _ => hlt) fun l h => by rw [hc l] at h; cases h

/-- Issuing one notice (R170, R171). -/
theorem issueNotice_frame (p : Device × Link) (n : Notice) : IssueFrame p (issueNotice p n) := by
  cases n with
  | lock a b c => exact .offer _ _ _ _ fun _ => rfl
  | cadence a b c d => exact .offer _ _ _ _ fun _ => rfl
  | overrun a b => exact .offer _ _ _ _ fun _ => rfl
  | completion c =>
    show IssueFrame p (issueCompletion p.1 p.2 c)
    rcases issueCompletion_cases p.1 p.2 c with ⟨-, e⟩ | ⟨hf, e⟩
    · rw [e]; exact ⟨id, rfl, rfl, rfl, fun _ => rfl, rfl⟩
    · rw [e]
      refine .join _ _ _ (fun h => by cases h) fun l h => ?_
      obtain rfl : c.lane = l := by simpa [Message.isCompletionOf] using h
      exact Link.hasCompletion_eq_false.1 hf

/-- What a whole event's notices do to the link (R169). -/
theorem Ev.commit_frame (e : Ev) (k : Link) : IssueFrame (e.dev, k) (e.commit k) := by
  unfold Ev.commit
  generalize orderNotices e.notes = ns
  suffices H : ∀ p : Device × Link, IssueFrame p (ns.foldl issueNotice p) from H _
  induction ns with
  | nil => intro p; exact .refl p
  | cons n ns ih => intro p; exact (issueNotice_frame p n).trans (ih _)

/-! ## Receiving -/

/-- Everything that a received byte changes: the receiver, the link flags, and the request queue's tail, which never grows
past 4 entries (R162 to R164). -/
theorem Link.receive_spec (k : Link) (b : Byte) :
    (k.receive b).outbound = k.outbound ∧ (k.receive b).inFlight = k.inFlight ∧
      (k.receive b).selected = k.selected ∧ (k.receive b).byteTime = k.byteTime ∧
        (k.requests.length ≤ 4 → (k.receive b).requests.length ≤ 4) := by
  unfold Link.receive
  split
  · split <;> exact ⟨rfl, rfl, rfl, rfl, id⟩
  · split <;> exact ⟨rfl, rfl, rfl, rfl, id⟩
  · split <;> exact ⟨rfl, rfl, rfl, rfl, id⟩
  · unfold Link.frameDone
    split
    · exact ⟨rfl, rfl, rfl, rfl, id⟩
    · by_cases h : Config.requestPlaces ≤ k.requests.length
      · rw [if_pos h]; exact ⟨rfl, rfl, rfl, rfl, id⟩
      · rw [if_neg h]
        refine ⟨rfl, rfl, rfl, rfl, fun _ => ?_⟩
        simp only [Config.requestPlaces] at h
        simp only [List.length_append, List.length_singleton]; omega

end Sys2Proof.Machine
end

