-- ==== Sys2Proof/Laws/Slots.lean ====
section
/-! SUPPORT. What giving back references and freeing slots can do, said once for each operation (R33, R41, R44, R45). -/
namespace Sys2Proof.Machine

variable (d : Device) (k : SlotId) (l : Lane)

/-! ## Taking and giving back references -/

/-- Taking references changes the counts alone, by one for each time the slot is named. -/
theorem Device.slot_takeRefs (is : List SlotId) :
    (is.foldl Device.takeRef d).slot k = { d.slot k with refs := (d.slot k).refs + is.count k } := by
  induction is generalizing d with
  | nil => rfl
  | cons i is ih =>
    rw [List.foldl_cons, ih, Device.takeRef, Device.slot_setSlot]
    by_cases h : k = i
    · subst h; simp; omega
    · rw [if_neg h, List.count_cons_of_ne (Ne.symm h)]

/-- Giving back references changes the counts alone, by one for each time the slot is named. -/
theorem Device.slot_dropRefs (is : List SlotId) :
    (is.foldl Device.dropRef d).slot k = { d.slot k with refs := (d.slot k).refs - is.count k } := by
  induction is generalizing d with
  | nil => rfl
  | cons i is ih =>
    rw [List.foldl_cons, ih, Device.dropRef, Device.slot_setSlot]
    by_cases h : k = i
    · subst h; simp; omega
    · rw [if_neg h, List.count_cons_of_ne (Ne.symm h)]

/-- A property that every step of a fold keeps holds after the fold. -/
theorem foldl_keeps {α β γ : Type} (f : β → α → β) (g : β → γ) (h : ∀ b a, g (f b a) = g b) (xs : List α) (b : β) :
    g (xs.foldl f b) = g b := by
  induction xs generalizing b with
  | nil => rfl
  | cons x xs ih => rw [List.foldl_cons, ih, h]

@[simp] theorem Device.takeRefs_lanes (is : List SlotId) : (is.foldl Device.takeRef d).lanes = d.lanes :=
  foldl_keeps Device.takeRef Device.lanes (fun _ _ => rfl) is d
@[simp] theorem Device.takeRefs_freeList (is : List SlotId) : (is.foldl Device.takeRef d).freeList = d.freeList :=
  foldl_keeps Device.takeRef Device.freeList (fun _ _ => rfl) is d
@[simp] theorem Device.takeRefs_dram (is : List SlotId) : (is.foldl Device.takeRef d).dram = d.dram :=
  foldl_keeps Device.takeRef Device.dram (fun _ _ => rfl) is d
@[simp] theorem Device.takeRefs_engine (is : List SlotId) : (is.foldl Device.takeRef d).engine = d.engine :=
  foldl_keeps Device.takeRef Device.engine (fun _ _ => rfl) is d
@[simp] theorem Device.takeRefs_handler (is : List SlotId) : (is.foldl Device.takeRef d).handler = d.handler :=
  foldl_keeps Device.takeRef Device.handler (fun _ _ => rfl) is d

/-! ## Freeing slots -/

/-- Freeing slots empties their entries and no other's. -/
theorem Device.slot_freeSlots (is : List SlotId) :
    (is.foldl Device.freeSlot d).slot k = if k ∈ is then Slot.empty else d.slot k := by
  induction is generalizing d with
  | nil => simp
  | cons i is ih =>
    rw [List.foldl_cons, ih]
    have hs : (d.freeSlot i).slot k = if k = i then Slot.empty else d.slot k := Device.slot_setSlot d i k Slot.empty
    rw [hs]
    by_cases h : k ∈ is <;> by_cases hk : k = i <;> simp [h, hk]

/-- Freed numbers join the tail of the free list in their order. -/
theorem Device.freeSlots_freeList (is : List SlotId) :
    (is.foldl Device.freeSlot d).freeList = d.freeList ++ is := by
  induction is generalizing d with
  | nil => simp
  | cons i is ih => rw [List.foldl_cons, ih, Device.freeSlot_freeList]; simp

theorem insertBy_perm (f : SlotId → Nat) (i : SlotId) (is : List SlotId) : (insertBy f i is).Perm (i :: is) := by
  induction is with
  | nil => exact .refl _
  | cons j js ih =>
    rw [insertBy]
    split
    · exact .refl _
    · exact (ih.cons j).trans (.swap i j js)

/-- Sorting rearranges. -/
theorem sortBy_perm (f : SlotId → Nat) (is : List SlotId) : (sortBy f is).Perm is := by
  induction is with
  | nil => exact .refl _
  | cons i is ih => exact (insertBy_perm f i _).trans (ih.cons i)

/-- The slots an event frees are the abandoned WRITING ones and the HELD ones whose last reference it gave back. -/
theorem Device.mem_slotsToFree (refs writing : List SlotId) :
    k ∈ d.slotsToFree refs writing ↔
      (k ∈ writing ∧ (d.slot k).state = .writing) ∨ (k ∈ refs ∧ (d.slot k).state = .held ∧ (d.slot k).refs = 0) := by
  rw [Device.slotsToFree, (sortBy_perm _ _).mem_iff]
  simp [and_assoc]

theorem Device.slotsToFree_nodup (refs writing : List SlotId) : (d.slotsToFree refs writing).Nodup :=
  (sortBy_perm _ _).nodup_iff.2 ((List.nodup_finRange 96).filter _)

/-! ## Giving back -/

/-- The slots that one event's give-back frees. -/
theorem Device.mem_given (refs writing : List SlotId) :
    k ∈ (refs.foldl Device.dropRef d).slotsToFree refs writing ↔
      (k ∈ writing ∧ (d.slot k).state = .writing) ∨
        (k ∈ refs ∧ (d.slot k).state = .held ∧ (d.slot k).refs - refs.count k = 0) := by
  rw [Device.mem_slotsToFree, Device.slot_dropRefs]

/-- Everything that a give-back does to the slot table: a freed slot is empty, and any other has its count lowered. -/
theorem Device.giveBack_slot (refs writing : List SlotId) :
    (d.giveBack refs writing).slot k =
      if (k ∈ writing ∧ (d.slot k).state = .writing) ∨
        (k ∈ refs ∧ (d.slot k).state = .held ∧ (d.slot k).refs - refs.count k = 0) then Slot.empty
      else { d.slot k with refs := (d.slot k).refs - refs.count k } := by
  show ((List.foldl Device.freeSlot (refs.foldl Device.dropRef d)
    ((refs.foldl Device.dropRef d).slotsToFree refs writing)).slot k) = _
  rw [Device.slot_freeSlots, Device.slot_dropRefs]
  simp only [Device.mem_given]

/-- Everything that a give-back does to the free list. -/
theorem Device.giveBack_freeList (refs writing : List SlotId) :
    (d.giveBack refs writing).freeList =
      d.freeList ++ (refs.foldl Device.dropRef d).slotsToFree refs writing := by
  show (List.foldl Device.freeSlot (refs.foldl Device.dropRef d)
    ((refs.foldl Device.dropRef d).slotsToFree refs writing)).freeList = _
  rw [Device.freeSlots_freeList, foldl_keeps Device.dropRef Device.freeList (fun _ _ => rfl)]

/-- A give-back leaves everything but the slot table and the free list alone. -/
theorem Device.giveBack_keeps {γ : Type} (g : Device → γ) (hs : ∀ d i x, g (Device.setSlot d i x) = g d)
    (hf : ∀ (d : Device) x, g { d with freeList := x } = g d) (refs writing : List SlotId) :
    g (d.giveBack refs writing) = g d := by
  show g (List.foldl Device.freeSlot _ _) = g d
  rw [foldl_keeps Device.freeSlot g (fun d i => (hf _ _).trans (hs d i _)),
    foldl_keeps Device.dropRef g (fun d i => hs d i _)]

@[simp] theorem Device.giveBack_lanes (refs writing : List SlotId) : (d.giveBack refs writing).lanes = d.lanes :=
  d.giveBack_keeps Device.lanes (fun _ _ _ => rfl) (fun _ _ => rfl) refs writing
@[simp] theorem Device.giveBack_lane (refs writing : List SlotId) : (d.giveBack refs writing).lane l = d.lane l :=
  d.giveBack_keeps (fun d => d.lane l) (fun _ _ _ => rfl) (fun _ _ => rfl) refs writing
@[simp] theorem Device.giveBack_dram (refs writing : List SlotId) : (d.giveBack refs writing).dram = d.dram :=
  d.giveBack_keeps Device.dram (fun _ _ _ => rfl) (fun _ _ => rfl) refs writing
@[simp] theorem Device.giveBack_engine (refs writing : List SlotId) : (d.giveBack refs writing).engine = d.engine :=
  d.giveBack_keeps Device.engine (fun _ _ _ => rfl) (fun _ _ => rfl) refs writing
@[simp] theorem Device.giveBack_handler (refs writing : List SlotId) : (d.giveBack refs writing).handler = d.handler :=
  d.giveBack_keeps Device.handler (fun _ _ _ => rfl) (fun _ _ => rfl) refs writing
@[simp] theorem Device.giveBack_strap (refs writing : List SlotId) : (d.giveBack refs writing).strap = d.strap :=
  d.giveBack_keeps Device.strap (fun _ _ _ => rfl) (fun _ _ => rfl) refs writing

/-- Giving back nothing changes nothing. -/
@[simp] theorem Device.giveBack_nil : d.giveBack [] [] = d := by
  have h : d.slotsToFree [] [] = [] := by
    cases h : d.slotsToFree [] [] with
    | nil => rfl
    | cons a as =>
      have := (Device.mem_slotsToFree d a [] []).1 (h ▸ List.mem_cons_self)
      simp at this
  show (List.foldl Device.freeSlot d (d.slotsToFree [] [])) = d
  rw [h]; rfl

end Sys2Proof.Machine
end

