-- ==== Sys2Proof/Tests/Slice0.lean ====
section
/-! SUPPORT. The model against the figures the spec works out, the smoke test of WellFormed, and a witness for the
hypotheses of every statement. Each test names the table or example its expected result comes from.

The tests are checked one after another (many at once hold many large stacks). -/
set_option Elab.async false

namespace Sys2Proof.Tests
open Sys2Proof Sys2Proof.Machine

/-! ## WellFormed -/

/-- Units 96 to 99 and 108 are no units of the part (R48): the check refuses them, and so does the meaning. -/
theorem test_illFormed_selfTestEnd :
    (Instr.selfTestEnd (some 96)).wellFormed = false ∧ (Instr.selfTestEnd (some 99)).wellFormed = false ∧
      (Instr.selfTestEnd (some 108)).wellFormed = false := by decide

theorem test_wellFormed_selfTestEnd_bounds :
    (Instr.selfTestEnd (some 0)).wellFormed = true ∧ (Instr.selfTestEnd (some 95)).wellFormed = true ∧
      (Instr.selfTestEnd (some 100)).wellFormed = true ∧ (Instr.selfTestEnd (some 107)).wellFormed = true := by decide

theorem test_illFormed_selfTestEnd_refused (s : State) : exec (.selfTestEnd (some 96)) s = .refused .illFormed := rfl

/-! ## Ingest -/

/-- The flags of line 10: the Cb word of pair 60 flags positions 120 and 121, the Cr word of pair 200 flags 400 and 401. -/
theorem test_flagged_positions :
    positionFlagged [240, 802] 120 = true ∧ positionFlagged [240, 802] 121 = true ∧
      positionFlagged [240, 802] 122 = false ∧ positionFlagged [240, 802] 400 = true ∧
      positionFlagged [240, 802] 401 = true ∧ positionFlagged [1402] 700 = true := by decide +kernel

/-- Table 11: the spans of line 10. -/
theorem test_table11_spans :
    ([100, 101, 102, 103, 106, 107, 108, 109, 110, 120, 121, 400, 401].foldl (addFlag 10) []) =
      [⟨10, 100, 110, .run, .notAttempted⟩, ⟨10, 120, 121, .run, .notAttempted⟩,
        ⟨10, 400, 401, .run, .notAttempted⟩] := by decide +kernel

/-- A run that covers a whole line takes kind LINE at the end of that line's scan; one from 700 does not (R15). -/
theorem test_line_span :
    markLine 7 ⟨7, 0, 719, .run, .notAttempted⟩ = ⟨7, 0, 719, .line, .notAttempted⟩ ∧
      markLine 40 ⟨40, 700, 719, .run, .notAttempted⟩ = ⟨40, 700, 719, .run, .notAttempted⟩ := by decide

/-- The 32-span limit: position 650 turns the 32nd span into a REST span, which absorbs the rest. -/
theorem test_rest_span :
    (([12, 13, 14, 15, 300, 650, 651, 652].foldl (addFlag 151)
      ((List.range 30).map fun k => ⟨k, 0, 0, .run, .notAttempted⟩)).drop 30) =
      [⟨151, 12, 15, .run, .notAttempted⟩, ⟨151, 0, 719, .rest, .notAttempted⟩] := by decide +kernel

/-! ## Labels -/

/-- A label with the eight digits `ds`. -/
def label (ds : List Nat) (valid : Bool) : LabelWord :=
  ⟨Vector.ofFn fun (i : Fin 8) => BitVec.ofNat 4 (ds.getD i.val 0), false, valid⟩

/-- Section 2.6's examples: 01:00:00;00 under DROP counts 107,892 and gives index 215,784. -/
theorem test_dropFrame_index :
    (label [0, 1, 0, 0, 0, 0, 0, 0] true).frameCount .dropFrame = 107892 ∧
      (label [0, 1, 0, 0, 0, 0, 0, 0] true).index .dropFrame 0 0 = 215784 ∧
      (label [0, 1, 0, 0, 0, 0, 0, 2] true).frameCount .dropFrame = 107894 := by decide +kernel

/-- 10:00:00:00 on an S625 lane of dominance 1: 1,800,000 at parity 1 and 1,800,001 at parity 0. -/
theorem test_s625_index :
    (label [1, 0, 0, 0, 0, 0, 0, 0] true).index .s625 1 1 = 1800000 ∧
      (label [1, 0, 0, 0, 0, 0, 0, 0] true).index .s625 0 1 = 1800001 := by decide +kernel

/-- The settings of Table 19's lane. -/
def table19 : Settings := { Settings.powerOn with standard := .s625 }

/-- Table 19, field 103: an illegal digit at position 5, the flywheel carries index 1,800,003. -/
theorem test_table19_field103 :
    (⟨some ⟨102, some 1800002⟩, some ⟨102, 1800002, .s625⟩, 1⟩ : LabelDecoder).judge table19 103 1
        (label [1, 0, 0, 0, 0, 11, 0, 1] true) =
      ⟨.illegalDigit 5, .s625, some 1800003, .flywheel, false⟩ := by decide +kernel

/-- Table 19, field 105: after the drop of field 104 the flywheel refuses. -/
theorem test_table19_field105 :
    (⟨some ⟨103, some 1800003⟩, some ⟨103, 1800003, .s625⟩, 2⟩ : LabelDecoder).judge table19 105 1 (label [] false) =
      ⟨.absent, .s625, none, .absent, false⟩ := by decide +kernel

/-- Table 19, field 106: no gap across the dropped field. -/
theorem test_table19_field106 :
    (⟨some ⟨105, none⟩, some ⟨103, 1800003, .s625⟩, 0⟩ : LabelDecoder).judge table19 106 0
        (label [1, 0, 0, 0, 0, 0, 0, 3] true) =
      ⟨.valid, .s625, some 1800006, .read, false⟩ := by decide +kernel

/-- Table 19, field 107: the gap. -/
theorem test_table19_field107 :
    (⟨some ⟨106, some 1800006⟩, some ⟨106, 1800006, .s625⟩, 0⟩ : LabelDecoder).judge table19 107 1
        (label [1, 0, 0, 0, 0, 0, 0, 5] true) =
      ⟨.valid, .s625, some 1800011, .read, true⟩ := by decide +kernel

/-- An S525 lane in mode FOLLOW. -/
def follow525 : Settings := { Settings.powerOn with standard := .s525, tcMode := .follow }

/-- R21: the drop-frame bit of an ABSENT label is not used, in mode FOLLOW as in the others. -/
theorem test_absent_bit_unused :
    (⟨none, none, 0⟩ : LabelDecoder).judge follow525 8 0 { label [] false with dropFrame := true } =
      (⟨none, none, 0⟩ : LabelDecoder).judge follow525 8 0 { label [] false with dropFrame := false } := rfl

/-- The bit of a label that is there decides in mode FOLLOW (R20): 01:00:00;00 gives index 215,784 with it set, 216,000
without. -/
theorem test_follow_bit_used :
    ((⟨none, none, 0⟩ : LabelDecoder).judge follow525 8 0
        { label [0, 1, 0, 0, 0, 0, 0, 0] true with dropFrame := true }).index = some 215784 ∧
      ((⟨none, none, 0⟩ : LabelDecoder).judge follow525 8 0 (label [0, 1, 0, 0, 0, 0, 0, 0] true)).index =
        some 216000 := by decide +kernel

/-! ## Repair -/

/-- Section 4.5's unit: line 40, positions 310 to 315, replaces words 620 to 631. -/
theorem test_unit_words :
    (⟨40, 310, 315⟩ : RepairUnit).words = [621, 623, 625, 627, 629, 631, 620, 622, 624, 626, 628, 630] := by decide +kernel

/-- The averages of the same example. -/
theorem test_interpolated_samples : average 400 431 = 416 ∧ average 520 507 = 514 := by decide +kernel

/-- Field 200's spans and field 202's, of Table 25. -/
def table25Source : RepairSource := ⟨0, 0, [⟨40, 300, 320, .run, .unrepaired⟩, ⟨100, 0, 719, .line, .substituted⟩]⟩
def table25Spans : List Span :=
  [⟨12, 50, 57, .run, .notAttempted⟩, ⟨40, 310, 315, .run, .notAttempted⟩, ⟨41, 500, 505, .run, .notAttempted⟩,
    ⟨100, 0, 719, .line, .notAttempted⟩, ⟨287, 10, 20, .run, .notAttempted⟩]

/-- Table 25: the candidates of field 202's five spans. -/
theorem test_table25_candidates :
    table25Spans.map (fun s => (s.units .s625).map fun u =>
        (temporalAvailable (some table25Source) 0 u, spatialAvailable .s625 table25Spans u)) =
      [[(true, true)], [(false, true)], [(true, true)], [(true, true)], [(true, false)]] := by decide +kernel

/-- Table 26: what the methods choose. -/
theorem test_table26_choices :
    chooseCandidate .temporalFirst false true = .interpolated ∧ chooseCandidate .spatialFirst true true = .interpolated ∧
      chooseCandidate .spatialFirst true false = .substituted ∧ chooseCandidate .temporalFirst false false = .unrepaired ∧
      chooseCandidate .off true true = .notAttempted := by decide

/-! ## The Cadence Monitor -/

/-- The field at frame line 21: U 480 and V 530 around 500 give the term 10 (section 5.3). -/
theorem test_comb_term :
    combTerm .s525 1 (fun _ _ => 500) (fun line _ => if line = 10 then 480 else 530) 10 16 = 10 := by decide +kernel

/-- The Monitor of Table 33 when field 503 has been taken, and its settings. -/
def table33 : Monitor :=
  ⟨.video, none, 0, #v[⟨0, 4⟩, ⟨1, 0⟩, ⟨2, 2⟩, ⟨3, 0⟩, ⟨4, 4⟩, ⟨0, 0⟩, ⟨1, 0⟩]⟩
def settings33 : Settings := { Settings.powerOn with standard := .s525, lockCount := 5 }

/-- Table 33, field 504: the pair (1,1) takes h4 to 5 and locks FILM_32 at position 4; the film position becomes 0. -/
theorem test_table33_field504 :
    (table33.judge settings33 false false (some true) (some true)).2 = some 4 ∧
      (table33.judge settings33 false false (some true) (some true)).1.advance.tracker = .film32 ∧
      (table33.judge settings33 false false (some true) (some true)).1.advance.filmPos = some 0 ∧
      ((table33.judge settings33 false false (some true) (some true)).1.hyps.toList.map Hypothesis.run) =
        [4, 0, 2, 0, 5, 0, 0] := by decide +kernel

/-- Table 35, field 513: (0,0) where (1,0) is expected breaks at once; the positions at field 514 are as stated. -/
theorem test_table35_field513 :
    ((⟨.film32, some 3, 0, #v[⟨1, 4⟩, ⟨0, 0⟩, ⟨1, 2⟩, ⟨2, 0⟩, ⟨3, 5⟩, ⟨4, 0⟩, ⟨0, 0⟩]⟩ : Monitor).judge settings33
        false false (some false) (some false)).1.advance =
      ⟨.video, none, 0, #v[⟨0, 0⟩, ⟨1, 0⟩, ⟨2, 0⟩, ⟨3, 0⟩, ⟨4, 0⟩, ⟨0, 0⟩, ⟨1, 0⟩]⟩ := by decide +kernel

/-! ## Rendering and scaling -/

/-- Table 45: the mix factor 28,672 and the sample 524. -/
theorem test_table45_blend :
    motion 600 640 (some (500, 480, 520, 530)) = 40 ∧ mixFactor 40 12 1024 = 28672 ∧ blend 28672 510 620 = 524 := by
  decide +kernel

/-- Tables 46 and 47: the limits and the exact halves. -/
theorem test_table46_table47_blend :
    mixFactor 40 12 2048 = 32767 ∧ blend 32767 510 620 = 510 ∧ blend (mixFactor 40 40 1024) 510 620 = 620 ∧
      blend 16384 601 500 = 551 ∧ blend 16384 399 500 = 450 ∧ blend 16384 501 500 = 501 := by decide +kernel

/-- Table 39: modes of the jobs for fields 504 and 512. -/
theorem test_table39_modes :
    decideMode true { FieldRecord.fresh 504 0 false with tracker := .film32, position := some 4 } true none = .weavePrev ∧
      decideMode true { FieldRecord.fresh 505 1 false with tracker := .film32, position := some 0 } true
        (some { FieldRecord.fresh 506 0 false with tracker := .film32, flagA := some true }) = .weaveNext ∧
      decideMode true { FieldRecord.fresh 512 0 false with tracker := .film32, position := some 2 } true
        (some { FieldRecord.fresh 513 1 false with tracker := .video, flagA := some false }) = .adaptive := by decide +kernel

/-- Table 52: the steps and offsets of the default profile. -/
theorem test_table52_steps :
    (takeSnapshot .s625 Profile.default).lumaH = ⟨31948, -16794⟩ ∧
      (takeSnapshot .s625 Profile.default).chromaH = ⟨31948, -16794⟩ ∧
      (takeSnapshot .s625 Profile.default).vertical = ⟨34952, -15292⟩ ∧
      (takeSnapshot .s625 Profile.default).windowClamped = false ∧
      (takeSnapshot .s525 Profile.default).vertical = ⟨29491, -18023⟩ ∧
      (takeSnapshot .s525 Profile.default).windowClamped = true := by decide +kernel

/-- Table 53: positions, phases and window samples of luma outputs 0 and 1439. -/
theorem test_table53_positions :
    (⟨31948, -16794⟩ : ScaleStep).intPart 0 = -1 ∧ (⟨31948, -16794⟩ : ScaleStep).frac 0 = 48742 ∧
      (⟨31948, -16794⟩ : ScaleStep).phase 0 = 23 ∧ (⟨31948, -16794⟩ : ScaleStep).intPart 1439 = 701 ∧
      (⟨31948, -16794⟩ : ScaleStep).phase 1439 = 7 ∧ clampIndex 702 702 = 701 ∧ clampIndex 702 (-1) = 0 := by decide +kernel

/-- Table 54: the clamp after the horizontal pass. -/
theorem test_table54_clamp : saturate 17342464 = 1023 ∧ saturate (-868352) = 0 ∧ saturate 90112 = 6 := by decide +kernel

/-- Table 41: after power-on lanes 0 and 1 are eligible at one level, and lane 0 wins; the search goes on from the
pointer. -/
theorem test_search_order : searchOrder 3 = [0, 1, 2, 3] ∧ searchOrder 2 = [3, 0, 1, 2] := by decide

/-! ## Messages -/

/-- Section 9.2: RESET with TAG 10h ends in CHECK E2h. -/
theorem test_reset_frame : byteSum [0x02, 0x0C, 0x10, 0xE2] = 0 := by decide

/-- Section 10.5: the LOCK notice of lane 0 entering SEEKING, CHECK 64h, and 60h with CHECK_FAILED in its LINK byte. -/
theorem test_lock_notice :
    (⟨.notice (.lock 0 .seeking 0), none⟩ : Record).bytes =
        [0xC3, 0x09, 0x91, 0x00, 0x00, 0x00, 0x02, 0x00, 0x00, 0x00, 0x00, 0x64] ∧
      (⟨.notice (.lock 0 .seeking 0), some ⟨false, false, true, false, false⟩⟩ : Record).bytes.getLast? =
        some 0x60 := by decide +kernel

/-- Section 10.6: the two span entries. -/
theorem test_span_entries :
    encodeSpan ⟨151, 0, 719, .rest, .unrepaired⟩ = [0x00, 0x97, 0xB0, 0x00, 0x02, 0xCF] ∧
      encodeSpan ⟨10, 100, 110, .run, .substituted⟩ = [0x00, 0x0A, 0x10, 0x64, 0x00, 0x6E] := by decide +kernel

/-- Section 10.7: the frame label of field 504, CHECK 6Fh. -/
theorem test_frame_label :
    (⟨0, 0, 0x30, 1, ⟨504, none, .absent, some .weavePrev, .film32, false, false, false, true, 0, 0, 0⟩⟩ : Frame).label =
      [0x5A, 0x00, 0x30, 0x03, 0x00, 0x00, 0x01, 0xF8, 0x00, 0x00, 0x00, 0x00, 0x01, 0x02, 0x08, 0x00, 0x00, 0x00,
        0x6F] := by decide +kernel

/-- Section 11's tap frame for set 2: the taps read back and sum to 16,384. -/
theorem test_tap_frame :
    readTaps [0, 0, 0xFC, 0, 0x48, 0, 0xFC, 0, 0, 0, 0, 0] = [0, -1024, 18432, -1024, 0, 0] ∧
      ([0, -1024, 18432, -1024, 0, 0] : List Int).sum = 16384 := by decide +kernel

/-- Section 3.4: the quotas 48, 16, 16, 16 pass, 48, 24, 16, 16 and 48, 16, 16, 6 do not. -/
theorem test_quotas :
    quotasOk [48, 16, 16, 16] = true ∧ quotasOk [48, 24, 16, 16] = false ∧ quotasOk [48, 16, 16, 6] = false := by
  decide +kernel

/-- Table 65: without a field-start, the input seen high and low, as at a pulse that is under way when the window opens,
passes 02h and 03h; seen at one level only it fails one of them. -/
theorem test_table65_levels :
    ((⟨true, false, false, 0, false, false⟩ : LineWatch).noteLevels .both).code = 0 ∧
      ((⟨true, false, false, 0, false, false⟩ : LineWatch).noteLevels .lowOnly).code = 2 ∧
      ((⟨true, false, false, 0, false, false⟩ : LineWatch).noteLevels .highOnly).code = 3 := by decide

/-- Table 65: field-starts show both levels; from 4 of them on, one parity level fails the last check. -/
theorem test_table65_parity :
    ((((LineWatch.start.fieldStart 0).fieldStart 0).fieldStart 0).noteLevels .lowOnly).code = 1 ∧
      (({ LineWatch.start with sampleSeen := true }.fieldStart 0).noteLevels .lowOnly).code = 0 ∧
      ((⟨true, true, true, 4, true, false⟩ : LineWatch).noteLevels .lowOnly).code = 4 ∧
      ((⟨true, true, true, 3, true, false⟩ : LineWatch).noteLevels .lowOnly).code = 0 := by decide

/-! ## Small states -/

/-- The machine after reset with lane 0's unit changed. -/
def at0 (f : LaneUnit → LaneUnit) : State := { State.reset with dev := State.reset.dev.modLane 0 f }

/-- Lane 0 with an Ingest Lane. -/
def ingest0 (g : IngestLane) : State := at0 fun u => { u with ingest := g }

/-- Lane 0 LOCKED, with an operation. -/
def op0 (op : Controller) : State :=
  at0 fun u => { u with ingest := ⟨.locked, 8, 0, 0, true, some 1, none, none⟩, op := op }

/-- The Operation Controller in a state. -/
def running (st : OpState) : Controller := { Controller.reset with state := st, tag := 9 }

/-- Lane 0 with an Output Channel. -/
def channel0 (c : Channel) : State := at0 fun u => { u with channel := c }

/-- A request waits at the head of the request queue. -/
def asked (s : State) (kind : Byte) (body : List Byte) : State :=
  { s with link := { s.link with requests := [⟨kind, 7, body⟩] } }

/-- The access level is ENGINEERING. -/
def engineer (s : State) : State :=
  { s with dev := { s.dev with strap := true, handler := { s.dev.handler with access := .engineering } } }

/-- A kept field of sequence 8 in slot 0 of lane 0, waiting for a stage of its chain. -/
def chained (stage : ChainStage) (r : FieldRecord) (op : Controller) : State :=
  let s := at0 fun u => { u with chain := some ⟨stage, 0⟩, window := [0], op := op }
  { s with dev := s.dev.setSlot 0 ⟨.held, some 0, 1, some 8, some r⟩ }

/-- The record of that field. -/
def rec8 : FieldRecord := { FieldRecord.fresh 8 0 false with label := label [] false }

/-- The open field 8 of parity 0. -/
def field8 : OpenField := { OpenField.start 8 0 false with label := label [] false }

/-- Lane 0 with the WRITING slot 0, its Ingest Lane `g` and its operation `op`. -/
def assemblingWith (g : IngestLane) (op : Controller) : State :=
  let s := at0 fun u => { u with ingest := g, op := op }
  { s with dev :=
    { s.dev.setSlot 0 ⟨.writing, some 0, 0, some 8, some rec8⟩ with freeList := initialFreeList.tail } }

/-- The Ingest Lane of field 8 in a state, with its bad-run, the previous parity and the open field. -/
def ingest8 (st : LaneState) (bad : Nat) (prev : Parity) (f : OpenField) : IngestLane :=
  ⟨st, 8, 3, bad, true, some prev, some f, none⟩

/-- The state after a command. -/
def after (c : Instr) (s : State) : State :=
  match exec c s with
  | .next t => t
  | _ => s

/-- A frame of transfer 1 in buffer 0 of lane 0. -/
def frame8 : Frame :=
  ⟨0, 0, 9, 1, ⟨8, none, .absent, some .adaptive, .video, false, false, false, false, 0, 0, 0⟩⟩

/-- A job for field 8 in slot 0 with buffer 0. -/
def job8 : Job :=
  ⟨0, 8, 9, 1, false, .running, none, none, some 0, none, takeSnapshot .s625 Profile.default, some 0, frame8.items⟩

/-- A transfer's parameters: start at index 100, end at index 200. -/
def params : TransferParams := ⟨0, .atIndex 100, .atIndex 200, false, false, true, true⟩

/-! ## Witnesses: the machine -/

theorem test_witness_StepRunsFrontCommand : State.reset.pending = [] := rfl

theorem test_witness_WellFormedCommandsAnswerNext :
    (Instr.lineStart 3).wellFormed = true ∧ (Instr.selfTestEnd (some 107)).wellFormed = true ∧
      (95 < 96 ∧ 96 < 100) ∧ (95 < 99 ∧ 99 < 100) ∧ 107 < 108 := by decide

/-- A record in flight, with the count of its bytes. -/
def flying (count : Nat) : State :=
  let s := asked State.reset 0x0C []
  { s with link := { s.link with
    selected := true, byteTime := .carrying, outbound := [⟨.ready, some LinkFlags.empty⟩]
    inFlight := some ⟨⟨.ready, some LinkFlags.empty⟩, count, false⟩ } }

theorem test_witness_ResetRequestTakesResetValues :
    (asked State.reset 0x0C []).takes 0x0C ⟨0x0C, 7, []⟩ ∧ (asked State.reset 0x0C []).link.inFlight = none ∧
      (flying 0).takes 0x0C ⟨0x0C, 7, []⟩ ∧ ((flying 0).link.inFlight.map InFlight.count) = some 0 ∧
      (flying 1).takes 0x0C ⟨0x0C, 7, []⟩ ∧ ((flying 1).link.inFlight.map InFlight.count) = some 1 := by
  unfold State.takes; decide +kernel

/-! ## Witnesses: decoder signals -/

theorem test_witness_OffLaneIgnoresDecoder :
    (State.reset.dev.lane 3).ingest.state = .off ∧ (∀ w, (State.reset.dev.lane 3).op.state ≠ .lineTesting w) ∧
      ((at0 fun u => { u with op := running (.lineTesting LineWatch.start) }).dev.lane 0).ingest.state = .off ∧
      ((at0 fun u => { u with op := running (.lineTesting LineWatch.start) }).dev.lane 0).op.state =
        .lineTesting LineWatch.start :=
  ⟨by decide, fun _ h => OpState.noConfusion h, by decide, by decide⟩

theorem test_witness_FieldStartOpensNextField :
    ((ingest0 ⟨.noSignal, 4294967294, 0, 0, false, none, none, none⟩).dev.lane 0).ingest.state ≠ .off ∧
      ((ingest0 ⟨.noSignal, 4294967294, 0, 0, false, none, none, none⟩).dev.lane 0).ingest.sequence ≠ 4294967295 ∧
      ((ingest0 ⟨.locked, 4294967295, 0, 0, true, none, none, none⟩).dev.lane 0).ingest.state ≠ .off ∧
      ((ingest0 ⟨.locked, 4294967295, 0, 0, true, none, none, none⟩).dev.lane 0).ingest.sequence = 4294967295 := by
  decide +kernel

/-- The field of each clause: 288 lines are well-formed, 287 are not, nor is a short last line. -/
theorem test_witness_FieldCloseMovesLock :
    (∀ p ∈ [((⟨.seeking, 8, 3, 0, true, some 1, some { field8 with lines := 288 }, none⟩ : IngestLane), true),
          (⟨.seeking, 8, 2, 0, true, some 1, some { field8 with lines := 288 }, none⟩, true),
          (⟨.seeking, 8, 2, 0, true, some 1, some { field8 with lines := 287 }, none⟩, false),
          (⟨.locked, 8, 65535, 1, true, some 1, some { field8 with lines := 288, lineOpen := true, words := 1440 },
            none⟩, true),
          (⟨.locked, 8, 9, 0, true, some 1, some { field8 with lines := 288, lineOpen := true, words := 1439 }, none⟩,
            false),
          (⟨.locked, 8, 9, 1, true, some 0, some { field8 with lines := 288 }, none⟩, false)],
        ((ingest0 p.1).dev.lane 0).ingest = p.1 ∧ p.1.sequence ≠ 4294967295 ∧
          (p.1.state = .seeking ∨ p.1.state = .locked) ∧ ((ingest0 p.1).dev.lane 0).settings.lockIn = 4 ∧
          ((ingest0 p.1).dev.lane 0).settings.standard = .s625 ∧
          p.1.openField.map (fun f => decide (f.lines = 288 ∧ f.malformed = false ∧ (f.lineOpen = true → 1440 ≤ f.words) ∧
            p.1.prevParity ≠ some f.parity)) = some p.2) ∧
      (∀ p ∈ [(2, 0, LaneState.locked), (2, 98, .seeking), (2, 99, .seeking)],
        let f := { field8 with lines := if p.2.2 = .locked then 288 else 287 }
        let s := at0 fun u =>
          { u with
            ingest := ⟨.seeking, 8, 3, 0, true, some 1, some f, none⟩
            op := { running (.acquiring 9) with seekingCount := p.2.1 } }
        (s.dev.lane 0).chain = none ∧ (s.dev.lane 0).settings.lockLimit = 100 ∧ s.link.hasCompletion 0 = false ∧
          ((after (.fieldStart 0 1 false) s).dev.lane 0).ingest.state = p.2.2) ∧
      ∀ st ∈ [OpState.cueing .exact 5 9, .transfer .armed params, .transfer .running params, .transfer .draining params],
        let s := at0 fun u =>
          { u with
            ingest := ⟨.locked, 8, 3, 1, true, some 1, some { field8 with lines := 287 }, none⟩, op := running st }
        (s.dev.lane 0).chain = none ∧ (s.dev.lane 0).op.state = st ∧
          ((after (.fieldStart 0 1 false) s).dev.lane 0).ingest.state = .seeking := by
  decide +kernel

/-- A field without a slot, with the previous parity, at the top of the sequence counter, and kept: whole, with its last
line short, and with the lock lost while a job waits for it and while one waits for an earlier field. -/
theorem test_witness_LockedFieldIsKeptOrDiscarded :
    (∀ g ∈ [ingest8 .locked 0 1 field8, ingest8 .locked 0 0 { field8 with slot := some 0 },
        { ingest8 .locked 0 1 { field8 with slot := some 0 } with sequence := 4294967295 },
        ingest8 .locked 0 1 { field8 with slot := some 0, lines := 288 },
        ingest8 .locked 0 1 { field8 with slot := some 0, lines := 288, lineOpen := true, words := 1439 }],
      let s := assemblingWith g Controller.reset
      (s.dev.lane 0).ingest = g ∧ g.state = .locked ∧ g.openField.isSome = true ∧ (s.dev.lane 0).chain = none ∧
        (s.dev.slot 0).state = .writing ∧ 0 ∉ s.dev.freeList ∧ s.dev.freeList ≠ [] ∧
        s.dev.handler.mask.cadence = true ∧ s.link.generals < 7) ∧
      ∀ seq ∈ [7, 6],
        let g := ingest8 .locked 1 1 { field8 with slot := some 0, lines := 288, malformed := true }
        let j := { job8 with state := .waitingNext, sequence := seq }
        let s := assemblingWith g { running (.transfer .running params) with jobs := [j] }
        (s.dev.lane 0).ingest = g ∧ s.dev.waitingJob 0 = some j ∧
          ((after (.fieldStart 0 1 false) s).dev.lane 0).ingest.state = .seeking := by
  decide +kernel

/-- The intake conditions at their edges: a head slot with room, a quota used up, 32 jobs pending. -/
theorem test_witness_IntakeTakesHeadSlotOrDrops :
    State.reset.dev.freeList.head? = some 0 ∧ State.reset.dev.slotsInUse 0 < (State.reset.dev.lane 0).quota ∧
      (State.reset.dev.lane 0).op.jobs.length < 32 ∧
      ((at0 fun u => { u with quota := 0 }).dev.lane 0).quota ≤ (at0 fun u => { u with quota := 0 }).dev.slotsInUse 0 ∧
      32 ≤ ((at0 fun u => { u with op := { u.op with jobs := List.replicate 32 job8 } }).dev.lane 0).op.jobs.length ∧
      ((at0 fun u => { u with op := running .probing, overrun := true }).dev.lane 0).op.state ≠ .idle ∧
      (∀ stop ∈ [true, false],
        let op := running (.transfer .running { params with stopOnOverrun := stop })
        let s := at0 fun u => { u with quota := 0, op := op }
        (s.dev.lane 0).op = op ∧ (s.dev.lane 0).quota ≤ s.dev.slotsInUse 0) ∧
      (∀ p ∈ [(IngestLane.mk .noSignal 8 0 0 false none none none, LaneState.seeking), (ingest8 .locked 0 1 field8, .locked),
          (ingest8 .locked 0 0 { field8 with slot := some 0, lines := 288 }, .locked)],
        let s := assemblingWith p.1 Controller.reset
        (s.dev.lane 0).ingest = p.1 ∧ p.1.state ≠ .off ∧ (s.dev.lane 0).chain = none ∧ s.dev.freeList.head? = some 1 ∧
          s.dev.slotsInUse 0 < (s.dev.lane 0).quota ∧ ((s.dev.giveBack [] [0]).freeList).head? = some 1 ∧
          ((after (.fieldStart 0 1 false) s).dev.lane 0).ingest.state = p.2) := by
  decide +kernel

theorem test_witness_LineStartOpensNextLine :
    (∀ f ∈ [none, some field8, some { field8 with lines := 288, lineOpen := true, words := 1439, slot := some 0 },
        some { field8 with lines := 289, lineOpen := true, words := 1440, slot := some 0 }],
      ((ingest0 ⟨.locked, 8, 0, 0, true, some 1, f, none⟩).dev.lane 0).ingest.state ≠ .off ∧
        ((ingest0 ⟨.locked, 8, 0, 0, true, some 1, f, none⟩).dev.lane 0).ingest.openField = f) ∧
      288 - 1 < Standard.s625.lines ∧ 1439 ≤ 1439 ∧ 1439 < 1440 := by decide +kernel

/-- Each clause: no field, no line, an excess line, an excess word, no slot, the last word of the last line. -/
theorem test_witness_WordsAndLabelsAreTaken :
    (∀ f ∈ [none, some field8, some { field8 with lines := 289, lineOpen := true },
        some { field8 with lines := 288, lineOpen := true, words := 1440 },
        some { field8 with lines := 288, lineOpen := true, words := 1439 },
        some { field8 with lines := 288, lineOpen := true, words := 1439, slot := some 95 }],
      ((ingest0 ⟨.locked, 8, 0, 0, true, some 1, f, none⟩).dev.lane 0).ingest.state ≠ .off ∧
        ((ingest0 ⟨.locked, 8, 0, 0, true, some 1, f, none⟩).dev.lane 0).ingest.openField = f ∧
        ((ingest0 ⟨.locked, 8, 0, 0, true, some 1, f, none⟩).dev.lane 0).settings.standard.lines = 288) := by
  decide +kernel

/-- The timer not running, and running in SEEKING and in LOCKED with a WRITING slot. -/
theorem test_witness_TimerExpiryLosesSignal :
    (State.reset.dev.lane 0).ingest.timer = false ∧
      ((ingest0 ⟨.seeking, 8, 0, 0, true, none, some field8, none⟩).dev.lane 0).ingest =
        ⟨.seeking, 8, 0, 0, true, none, some field8, none⟩ ∧ field8.slot = none ∧
      (let s := ingest0 ⟨.locked, 8, 0, 0, true, some 1, some { field8 with slot := some 0 }, none⟩
       let s := { s with dev := s.dev.setSlot 0 ⟨.writing, some 0, 0, some 8, some rec8⟩ }
       (s.dev.lane 0).ingest = ⟨.locked, 8, 0, 0, true, some 1, some { field8 with slot := some 0 }, none⟩ ∧
         (s.dev.slot 0).state = .writing ∧ s.dev.handler.mask.lock = true ∧ s.link.generals < 8) ∧
      ((at0 fun u => { u with ingest := ingest8 .seeking 0 1 field8, op := running (.acquiring 9) }).dev.lane 0).op.state =
        .acquiring 9 ∧
      ∀ st ∈ [OpState.scanning ⟨.level, .atOrAbove, 100, none, 1⟩, .transfer .armed params, .transfer .running params,
          .transfer .draining params],
        ((op0 (running st)).dev.lane 0).op.state = st ∧ ((op0 (running st)).dev.lane 0).ingest.state = .locked ∧
          ((op0 (running st)).dev.lane 0).ingest.timer = true := by
  decide +kernel

/-- The empty list, and a full one with a REST span at its end. -/
theorem test_witness_DropoutListStaysBounded :
    ∀ spans ∈ [([] : List Span), (List.range 31).map (fun k => (⟨k, 0, 0, .run, .notAttempted⟩ : Span)) ++
        [⟨100, 0, 719, .rest, .notAttempted⟩]],
      spans.length ≤ 32 ∧ (∀ x ∈ spans.dropLast, x.kind ≠ .rest) ∧
        ∀ x ∈ spans, x.line < 101 ∧ x.first ≤ x.last ∧ x.last ≤ 719 ∧ x.outcome = .notAttempted := by
  decide +kernel

/-- Two runs of a line after 31 spans: the first stays as the 32nd only while it is alone (R16). -/
theorem test_32nd_span :
    ((buildLine 101 [201, 219] ((List.range 30).map fun k => (⟨k, 0, 0, .run, .notAttempted⟩ : Span))).drop 30 =
        [⟨101, 100, 100, .run, .notAttempted⟩, ⟨101, 109, 109, .run, .notAttempted⟩]) ∧
      (buildLine 101 [201, 219] ((List.range 31).map fun k => (⟨k, 0, 0, .run, .notAttempted⟩ : Span))).drop 31 =
        [⟨101, 0, 719, .rest, .notAttempted⟩] := by decide +kernel

/-! ## Witnesses: the completion chain -/

/-- The field at the repair, with an operation and without, and under OFF. -/
theorem test_witness_DropoutRepairWritesItsUnits :
    ((chained .repair { rec8 with spans := table25Spans } (running .probing)).dev.lane 0).chain = some ⟨.repair, 0⟩ ∧
      (chained .repair { rec8 with spans := table25Spans } (running .probing)).dev.record 0 =
        some { rec8 with spans := table25Spans } ∧
      ((chained .repair { rec8 with spans := table25Spans } (running .probing)).dev.lane 0).settings.repair ≠ .off ∧
      ((chained .repair rec8 (running .probing)).dev.lane 0).op.state ≠ .idle ∧
      ((chained .repair rec8 Controller.reset).dev.lane 0).op.state = .idle ∧
      (let s := at0 fun u => { u with chain := some ⟨.repair, 0⟩, settings := { u.settings with repair := .off } }
       (s.dev.lane 0).settings.repair = .off ∧ ∀ y ∈ rec8.spans, y.outcome = .notAttempted) := by decide +kernel

theorem test_witness_RepairUnitSamples :
    (0 : SlotId) ≠ 95 ∧ (⟨287, 310, 719⟩ : RepairUnit).line < 288 ∧ (⟨287, 310, 719⟩ : RepairUnit).last ≤ 719 ∧
      1 ≤ (⟨1, 0, 0⟩ : RepairUnit).line ∧
      (∀ k ∈ [SpanKind.run, .line, .rest], (⟨286, 5, 9, k, .notAttempted⟩ : Span).kind = k) := by decide

/-- The label 10:00:0B:01 with an illegal digit, and one with digits in order. -/
theorem test_witness_LabelValidationOrder :
    TcMode.nonDrop ≠ .none ∧ (label [1, 0, 0, 0, 0, 11, 0, 1] true).valid = true ∧
      9 < (label [1, 0, 0, 0, 0, 11, 0, 1] true).digit 5 ∧
      (∀ q : Fin 8, q < 5 → (label [1, 0, 0, 0, 0, 11, 0, 1] true).digit q ≤ 9) ∧
      (label [2, 3, 5, 9, 5, 9, 2, 9] true).valid = true ∧
      ∀ p, (label [2, 3, 5, 9, 5, 9, 2, 9] true).digit p ≤ 9 := by decide +kernel

/-- The highest label of each counting. -/
theorem test_witness_LabelIndexConversion :
    (label [2, 3, 5, 9, 5, 9, 2, 4] true).validate .nonDrop (countingOf .s625 .nonDrop false) = .valid ∧
      (label [2, 3, 5, 9, 5, 9, 2, 9] true).validate .nonDrop (countingOf .s525 .nonDrop false) = .valid ∧
      (label [2, 3, 5, 9, 5, 9, 2, 9] true).validate .drop (countingOf .s525 .drop false) = .valid ∧
      (countingOf .s625 .nonDrop false, countingOf .s525 .nonDrop false, countingOf .s525 .drop false) =
        (.s625, .nonDrop, .dropFrame) := by decide +kernel

/-- The flywheel carries on below its limit and its counting's highest index; at the highest index it does not. -/
theorem test_witness_FlywheelGivesNextIndex :
    (label [] false).valid = false ∧ ({ label [1] false with dropFrame := true } : LabelWord).valid = false ∧ (∀ n ∈ [4319998, 4319999],
      ((⟨some ⟨102, some n⟩, some ⟨102, n, .s625⟩, 49⟩ : LabelDecoder).judge table19 103 1 (label [] false)).result ≠ .valid) ∧
      (⟨some ⟨102, some 4319998⟩, some ⟨102, 4319998, .s625⟩, 49⟩ : LabelDecoder).ok ∧ 102 + 1 = 103 ∧
      49 < table19.flywheelLimit ∧ 4319998 + 1 ≤ Counting.s625.highestIndex ∧
      Counting.s625.highestIndex < 4319999 + 1 :=
  ⟨by decide, by decide, by decide +kernel, fun q ix h => by
    injection h with h; injection h with h1 h2; injection h2 with h2; subst h1; subst h2; exact ⟨_, rfl⟩, rfl,
    by decide, by decide, by decide⟩

/-- The join with a free place in the window, and with the oldest of four members leaving. -/
theorem test_witness_LabelJudgementJoinsWindow :
    (let s := at0 fun u => { u with chain := some ⟨.label, 0⟩, window := [1, 2, 3] }
     let s := { s with dev := s.dev.setSlot 0 ⟨.writing, some 0, 0, some 8, some rec8⟩ }
     (s.dev.lane 0).chain = some ⟨.label, 0⟩ ∧ s.dev.record 0 = some rec8 ∧ 0 ∉ (s.dev.lane 0).window ∧
       (s.dev.lane 0).window.length < 4) ∧
    (∀ refs ∈ [1, 2],
      let s := at0 fun u => { u with chain := some ⟨.label, 0⟩, window := [1, 2, 3, 4] }
      let s := { s with dev := s.dev.setSlot 0 ⟨.writing, some 0, 0, some 8, some rec8⟩ }
      let s := { s with dev := s.dev.setSlot 1 ⟨.held, some 0, refs, some 4, some rec8⟩ }
      (s.dev.lane 0).chain = some ⟨.label, 0⟩ ∧ s.dev.record 0 = some rec8 ∧ 0 ∉ (s.dev.lane 0).window ∧
        (s.dev.lane 0).window.length ≤ 4 ∧ (s.dev.slot 1).state = .held ∧ (s.dev.slot 1).refs = refs) := by
  decide +kernel

theorem test_witness_MonitorMeasuresField :
    ((chained .monitor rec8 Controller.reset).dev.lane 0).chain = some ⟨.monitor, 0⟩ ∧
      (chained .monitor rec8 Controller.reset).dev.record 0 = some rec8 := by decide +kernel

/-- The Monitor of Table 33 keeps its law and locks; one in FILM_32 keeps it too. -/
theorem test_witness_TrackerLocksAndBreaks :
    table33.ok 5 ∧ table33.tracker = .video ∧
      (table33.judge settings33 false false (some true) (some true)).1.tracker ≠ .video ∧
      settings33.cadenceEnable = true ∧ settings33.lockCount = 5 ∧
      ({ table33 with tracker := .film32, filmPos := some 4 } : Monitor).ok 5 := by
  unfold Monitor.ok
  exact ⟨⟨by decide, by decide, fun _ => by decide, fun h => absurd rfl h⟩, rfl, by decide +kernel, rfl, rfl,
    by decide, by decide, fun h => Tracker.noConfusion h, fun _ => ⟨⟨4, rfl, by decide⟩, by decide⟩⟩

/-- The waiting job of field 8 in slot 1, at FILM_32 position `pos`, while field 9 in slot 0 is taken. -/
def waiting (aware : Bool) (pos : Nat) : State :=
  let j := { job8 with state := .waitingNext, buffer := none, fieldSelf := some 1, fieldPrev := some 2, filmAware := aware }
  let s := chained .controller { rec8 with sequence := 9 } { running (.transfer .draining params) with jobs := [j] }
  { s with dev := s.dev.setSlot 1 ⟨.held, some 0, 2, some 8, some { rec8 with tracker := .film32, position := some pos }⟩ }

theorem test_witness_FieldTakenEndsChain :
    (((chained .controller { rec8 with gap := true } (running .probing)).dev.lane 0).chain = some ⟨.controller, 0⟩ ∧
      (chained .controller { rec8 with gap := true } (running .probing)).dev.record 0 = some { rec8 with gap := true } ∧
      ((chained .controller rec8 (running .probing)).dev.lane 0).op.state ≠ .idle ∧
      ((chained .controller rec8 Controller.reset).dev.lane 0).op.state = .idle ∧
      ((after (.fieldTaken 0) (chained .controller rec8 (running .probing))).dev.lane 0).op.jobs = []) ∧
    (∀ p ∈ [(false, 0), (true, 4), (true, 0)],
      ((waiting p.1 p.2).dev.lane 0).chain = some ⟨.controller, 0⟩ ∧
        ((waiting p.1 p.2).dev.record 0).map FieldRecord.sequence = some 9 ∧
        ((waiting p.1 p.2).dev.waitingJob 0).map Job.filmAware = some p.1 ∧
        ((waiting p.1 p.2).dev.record 1).map FieldRecord.position = some (some p.2) ∧
        ((waiting p.1 p.2).dev.record 1).map FieldRecord.tracker = some .film32) ∧
      (expectedPair .film32 4).1 = true ∧ (expectedPair .film32 0).1 = false := by decide +kernel

/-- A SCAN for level at or above 100, whose limit is 1 field. -/
def scan100 : ScanParams := ⟨.level, .atOrAbove, 100, some 0, 1⟩

/-- For each clause a field and an operation that it speaks of, the limits at their last field. -/
theorem test_witness_SearchesEndAtTheirField :
    (∀ p ∈ [({ rec8 with index := some 200 }, OpState.cueing .exact 200 1),
        ({ rec8 with index := some 201 }, .cueing .atOrAfter 200 9), (rec8, .cueing .exact 200 1),
        ({ rec8 with index := some 199 }, .cueing .exact 200 1), ({ rec8 with index := some 199 }, .cueing .exact 200 2),
        ({ rec8 with index := some 201 }, .cueing .exact 200 9),
        ({ rec8 with level := some 100 }, .scanning scan100), (rec8, .scanning scan100),
        ({ rec8 with level := some 99 }, .scanning scan100), ({ rec8 with parity := 1 }, .scanning { scan100 with limit := 2 }),
        (rec8, .probing)],
      let s := chained .controller p.1 { running p.2 with previousIndex := some 198 }
      (s.dev.lane 0).chain = some ⟨.controller, 0⟩ ∧ s.dev.record 0 = some p.1 ∧ (s.dev.lane 0).op.state = p.2 ∧
        s.link.hasCompletion 0 = false ∧ (s.dev.lane 0).op.limitCount = 0 ∧ (s.dev.lane 0).op.first = none ∧
        (s.dev.lane 0).op.previousIndex = some 198) ∧
      scan100.comparison.holds 100 100 = true ∧ scan100.comparison.holds 100 99 = false ∧
      ({ rec8 with level := some 100 } : FieldRecord).measure .level = some 100 ∧ rec8.measure .level = none ∧
      rec8.index = none ∧ rec8.parity = 0 := by decide +kernel

/-- A RUNNING transfer of one job already created, and the same with an end that the field reaches. -/
def transferring (p : TransferParams) : Controller :=
  { running (.transfer .running p) with snapshot := some job8.snapshot, jobsCreated := 1, transferId := 1 }

/-- A RUNNING transfer, its end COUNT reached by the job and not; an ARMED one past its start; a job that waits for the
field. -/
theorem test_witness_TransferGivesFieldJob :
    (∀ p ∈ [(rec8, SubState.running, { params with ending := .count 2 }),
        (rec8, .running, { params with ending := .count 3 }),
        ({ rec8 with index := some 101 }, .armed, { params with ending := .atIndex 101 }),
        (rec8, .armed, { params with start := .immediate, ending := .never })],
      let op := { transferring p.2.2 with state := .transfer p.2.1 p.2.2 }
      let s := chained .controller p.1 op
      (s.dev.lane 0).chain = some ⟨.controller, 0⟩ ∧ s.dev.record 0 = some p.1 ∧ (s.dev.lane 0).op = op ∧
        op.snapshot = some job8.snapshot ∧ op.jobs.length < 32 ∧ (0 : SlotId) ∈ (s.dev.lane 0).window ∧
        s.dev.waitingJob 0 = none ∧ p.1.gap = false ∧ p.1.held = false) ∧
      ((waiting true 0).dev.waitingJob 0).map Job.sequence = some 8 ∧
      ((waiting true 0).dev.record 0).map FieldRecord.sequence = some 9 ∧
      (0 : SlotId) ∈ ((waiting true 0).dev.lane 0).window ∧
      TransferEnd.reached (.count 2) (min 16777215 (1 + 1)) none = true ∧
      TransferEnd.reached (.count 3) (min 16777215 (1 + 1)) none = false := by decide +kernel

/-- Each clause: an ARMED transfer before its start, a DRAINING one, a GAP, a field past the end, a held field, 32 jobs
pending, the end reached at the field and not. -/
theorem test_witness_TransferGivesNoJob :
    (∀ p ∈ [({ rec8 with index := some 99 }, SubState.armed, params), (rec8, .draining, params),
        ({ rec8 with gap := true }, .running, { params with stopOnGap := true }),
        ({ rec8 with index := some 201 }, .running, params),
        ({ rec8 with index := some 201, gap := true }, .armed, { params with stopOnGap := true }),
        ({ rec8 with held := true, index := some 200 }, .running, { params with skipHeld := true }),
        ({ rec8 with held := true }, .running, { params with skipHeld := true })],
      let op := { transferring p.2.2 with state := .transfer p.2.1 p.2.2 }
      let s := chained .controller p.1 op
      (s.dev.lane 0).chain = some ⟨.controller, 0⟩ ∧ s.dev.record 0 = some p.1 ∧ (s.dev.lane 0).op = op) ∧
      (∀ p ∈ [{ params with stopOnOverrun := true }, { params with stopOnOverrun := false, ending := .count 1 },
          { params with stopOnOverrun := false, ending := .count 2 }],
        let op := { transferring p with jobs := List.replicate 32 { job8 with state := .ready } }
        let s := chained .controller rec8 op
        (s.dev.lane 0).op = op ∧ 32 ≤ op.jobs.length ∧ s.dev.record 0 = some rec8) ∧
      params.ending = .atIndex 200 ∧ params.start = .atIndex 100 := by decide +kernel

/-- An ACQUIRE with its timer running, a lane without one, a LINE TEST, and a lane without one. -/
theorem test_witness_OperationTimersComplete :
    State.reset.link.hasCompletion 0 = false ∧
      ((op0 { running (.acquiring 30) with waitTimer := true }).dev.lane 0).op.state = .acquiring 30 ∧
      ((op0 { running (.acquiring 30) with waitTimer := true }).dev.lane 0).op.waitTimer = true ∧
      (State.reset.dev.lane 0).op.waitTimer = false ∧
      ((op0 (running (.lineTesting ⟨true, true, true, 4, true, false⟩))).dev.lane 0).op.state =
        .lineTesting ⟨true, true, true, 4, true, false⟩ ∧
      ∀ w, (State.reset.dev.lane 0).op.state ≠ .lineTesting w :=
  ⟨by decide, by decide, by decide, by decide, by decide, fun _ h => OpState.noConfusion h⟩

/-! ## Witnesses: rendering -/

/-- Lane 0 with one READY job. -/
def ready0 : State := at0 fun u => { u with op := { u.op with jobs := [{ job8 with state := .ready, buffer := none }] } }

theorem test_witness_GrantGoesToNextEligibleLane :
    ready0.dev.engine.running = none ∧ ready0.dev.grantWinner = some 0 ∧ State.reset.dev.grantWinner = none := by
  decide +kernel

/-- The running job of slot 0: one reference of its own besides the window's, and one that is the last. -/
theorem test_witness_JobCompletionQueuesFrame :
    ∀ refs ∈ [1, 2],
      let s := { State.reset with dev := { State.reset.dev with engine := ⟨some job8, 0⟩ } }
      let s := { s with dev := s.dev.setSlot 0 ⟨.held, some 0, refs, some 8, some rec8⟩ }
      s.dev.engine.running = some job8 ∧ job8.buffer = some 0 ∧ (s.dev.renderInput job8).isSome = true ∧
        (s.dev.slot 0).refs = refs ∧ job8.slots.count 0 = 1 ∧ 95 ∉ job8.slots ∧ (s.dev.slot 0).state = .held := by
  decide +kernel

theorem test_witness_BlendStaysBetweenCandidates : 32767 ≤ 32767 ∧ 0 ≤ 1023 ∧ 1023 ≤ 1023 := by decide

/-- A field of parity 1 between two of parity 0, every word 500. -/
def input8 : RenderInput :=
  let v : Parity → FieldView := fun p => ⟨p, fun _ _ => 500, []⟩
  ⟨576, v 1, some (v 0), some (v 0), none, 12, 1024⟩

theorem test_witness_ReconstructedFrameLines :
    1 % 2 = input8.self.parity.val ∧ 0 % 2 ≠ input8.self.parity.val ∧ input8.prev2.isNone = true ∧
      ({ input8 with prev2 := some input8.self } : RenderInput).prev2.isSome = true ∧
      (∀ i v, input8.self.word i v ≤ 1023) ∧ (∀ p, input8.prev = some p → ∀ i v, p.word i v ≤ 1023) ∧
      ∀ q, input8.next = some q → ∀ i v, q.word i v ≤ 1023 :=
  have h500 : (500 : Nat) ≤ 1023 := by decide
  ⟨rfl, by decide, rfl, rfl, fun _ _ => h500, fun _ h _ _ => by injection h with h; subst h; exact h500,
    fun _ h _ _ => by injection h with h; subst h; exact h500⟩

/-- The default profile, and section 7.2's profile that the S525 frame clamps. -/
theorem test_witness_SnapshotStepsAndWindow :
    Profile.default.geometryOk = true ∧ ({ Profile.default with y0 := 480, hs := 96, hd := 384 } : Profile).geometryOk = true ∧
      (486 < 1080 ∧ 486 ≤ 2 * 1080) ∧ 720 ≤ 2 * 360 := by decide +kernel

theorem test_witness_ScalerStaysInRange :
    0 < 702 ∧ (0 : Int) ≤ 701 ∧ (701 : Int) < (702 : Nat) ∧ (-1 : Int) < 0 ∧ ((702 : Nat) : Int) ≤ 702 ∧
      (∀ i, (fun _ : Nat => 1023) i ≤ 1023) ∧
      ¬(Profile.default.xd ≤ 239) ∧ ¬(1680 < Profile.default.xd + Profile.default.wd) := by
  exact ⟨by decide, by decide, by decide, by decide, by decide, fun _ => Nat.le_refl _, by decide, by decide⟩

/-! ## Witnesses: Output Channels -/

/-- The channel of lane 0 with a frame queued, in a send state. -/
def chan (send : SendState) (rdy : Bool) : Channel := ⟨#v[.queued, .free], [frame8], send, rdy⟩

theorem test_witness_ChannelFollowsReady :
    ((channel0 (chan .idle true)).dev.lane 0).channel = chan .idle true ∧ (chan .idle true).send = .idle ∧
      (chan .idle true).queue = [frame8] ∧ (chan .idle true).ready = true ∧ (chan (.sending 0) true).send ≠ .idle ∧
      (chan (.sending 1079) false).send = .sending 1079 ∧ 1079 < 1080 ∧ (chan (.sending 1080) true).send = .sending 1080 ∧
      (chan (.paused 1080) false).send = .paused 1080 ∧ ∀ n, (chan (.sending 1080) true).send ≠ .paused n :=
  ⟨by decide +kernel, rfl, rfl, rfl, by decide, rfl, by decide, rfl, rfl, fun _ h => SendState.noConfusion h⟩

/-- The last line of a frame of a running and of a DRAINING transfer with nothing else left, and of another transfer. -/
theorem test_witness_SendCompletionFreesBuffer :
    (∀ p ∈ [(SubState.running, 1), (.draining, 1), (.running, 2)],
      let s := at0 fun u =>
        { u with
          channel := chan (.sending 1080) true
          op := { running (.transfer p.1 params) with transferId := p.2 } }
      (s.dev.lane 0).channel.send = .sending 1080 ∧ (s.dev.lane 0).channel.queue = [frame8] ∧
        (s.dev.lane 0).op.state = .transfer p.1 params ∧ (s.dev.lane 0).op.transferId = p.2 ∧
        s.link.hasCompletion 0 = false ∧ (s.dev.lane 0).op.jobs = [] ∧ s.dev.engine.running = none) ∧
      frame8.transferId = 1 := by decide +kernel

theorem test_witness_RecordsAndLabelsSumToZero :
    (⟨.ready, some LinkFlags.empty⟩ : Record).link = some LinkFlags.empty ∧
      (Message.ready).body.length ≤ 247 ∧ ((channel0 (chan (.sending 0) true)).dev.lane 0).channel.send = .sending 0 ∧
      ((channel0 (chan (.sending 0) true)).dev.lane 0).channel.queue = [frame8] := by decide +kernel

/-! ## Witnesses: the Control Link -/

/-- The link selected, with a receiver state and waiting requests. -/
def receiving (r : Receiver) (reqs : List Request) : State :=
  { State.reset with link := { State.reset.link with
    selected := true, byteTime := .filler, outbound := [], receiver := r, requests := reqs } }

/-- Each clause at its edges: HUNT; LENGTH with 2, 250, 1 and 251; BODY at its last byte; CHECK good, bad, and with a full
queue. -/
theorem test_witness_ReceiverTakesBytesAndFrames :
    State.reset.link.selected = false ∧ State.reset.link.awaitsCheck = false ∧ State.reset.link.receiver ≠ .length ∧
      (∀ r ∈ [Receiver.hunt, .length, .body 2 [0x0C], .check 2 [0x0C, 0x10]],
        (receiving r []).link.selected = true ∧ (receiving r []).link.receiver = r ∧
          (receiving r []).link.sendingCheck = false) ∧
      (2 ≤ (2 : Byte).toNat ∧ (250 : Byte).toNat ≤ 250 ∧ (1 : Byte).toNat < 2 ∧ 250 < (251 : Byte).toNat) ∧
      byteSum ([BitVec.ofNat 8 2, 0x0C, 0x10] ++ [] ++ [0xE2]) = 0 ∧
      byteSum ([BitVec.ofNat 8 2, 0x0C, 0x10] ++ [] ++ [0xE3]) ≠ 0 ∧
      (receiving (.check 2 [0x0C, 0x10]) (List.replicate 3 ⟨1, 1, []⟩)).link.requests.length < 4 ∧
      4 ≤ (receiving (.check 2 [0x0C, 0x10]) (List.replicate 4 ⟨1, 1, []⟩)).link.requests.length := by decide +kernel

/-- Select high and low; with no record, a record due, and a record in flight. -/
theorem test_witness_SelectOpensAndCloses :
    State.reset.link.selected = false ∧ State.reset.link.inFlight = none ∧ State.reset.link.outbound ≠ [] ∧
      (receiving .length []).link.selected = true ∧ (receiving .length []).link.receiver ≠ .hunt ∧
      (receiving .length []).link.byteTime ≠ .startDue ∧ (receiving .hunt []).link.outbound = [] ∧
      (flying 1).link.inFlight ≠ none ∧ ({ (flying 1).link with selected := false } : Link).selected = false := by
  decide +kernel

/-- READY due to start out, at its first start and again. -/
def due (link : Option LinkFlags) : State :=
  { State.reset with link := { State.reset.link with
    selected := true, byteTime := .startDue, outbound := [⟨.ready, link⟩] } }

/-- A record's start at its first time and again; a byte of it; its CHECK byte, for READY and for a COMPLETION with one
held behind it. -/
theorem test_witness_RecordsStartOutAndLeave :
    ((due none).link.byteTime = .startDue ∧ (due none).link.inFlight = none ∧ (due none).link.outbound = [⟨.ready, none⟩]) ∧
      (due (some LinkFlags.empty)).link.outbound = [⟨.ready, some LinkFlags.empty⟩] ∧
      State.reset.link.byteTime ≠ .startDue ∧
      (flying 5).link.selected = true ∧ (flying 5).link.byteTime = .carrying ∧
      5 + 1 < (⟨.ready, some LinkFlags.empty⟩ : Record).bytes.length ∧
      (⟨.ready, some LinkFlags.empty⟩ : Record).bytes.length ≤ 6 + 1 ∧
      (flying 6).link.outbound = [⟨.ready, some LinkFlags.empty⟩] ∧
      (let c := (running .probing).record 0 .nothing
       ((op0 { Controller.reset with held := some c }).dev.lane c.lane).op.held = some c) := by decide +kernel

/-! ## Witnesses: the Request Handler -/

/-- A LINE TEST of lane 4 is refused with RANGE, its reply the only record that joins. -/
theorem test_witness_RefusalsChangeNothing :
    isRequest .lineTest = true ∧
      ∃ t, exec .lineTest (asked State.reset 0x17 [4]) = .next t ∧
        t.link.outbound = (asked State.reset 0x17 [4]).link.outbound ++
          [⟨.reply ⟨0x17, 7, .refused .range, false, []⟩, none⟩] :=
  ⟨rfl, _, rfl, by decide +kernel⟩

theorem test_witness_TakenRequestsAreAnswered :
    (asked State.reset 0x01 []).takeable = some ⟨0x01, 7, []⟩ ∧ (0x01 : Byte).toNat ≠ 0x0B ∧ (0x01 : Byte).toNat ≠ 0x0C ∧
      (asked State.reset 0xFF []).takeable = some ⟨0xFF, 7, []⟩ ∧ (0xFF : Byte).toNat ≠ 0x0B ∧
      (0xFF : Byte).toNat ≠ 0x0C := by decide +kernel

/-- Every clause: the three queries, an INSPECT FIELD of each edge, an unknown kind and a wrong length. -/
theorem test_witness_QueriesAnswer :
    (asked State.reset 0x02 []).takes 0x02 ⟨0x02, 7, []⟩ ∧ (asked State.reset 0x01 []).takes 0x01 ⟨0x01, 7, []⟩ ∧
      (asked State.reset 0x03 [4, 0]).takes 0x03 ⟨0x03, 7, [4, 0]⟩ ∧
      (asked State.reset 0x03 [3, 4]).takes 0x03 ⟨0x03, 7, [3, 4]⟩ ∧
      (asked State.reset 0x03 [3, 3]).takes 0x03 ⟨0x03, 7, [3, 3]⟩ ∧
      (State.reset.dev.lane 3).window.reverse[3]? = none ∧
      (asked (chained .monitor rec8 Controller.reset) 0x03 [0, 0]).takes 0x03 ⟨0x03, 7, [0, 0]⟩ ∧
      ((chained .monitor rec8 Controller.reset).dev.lane 0).window.reverse[0]? = some 0 ∧
      (chained .monitor rec8 Controller.reset).dev.record 0 = some rec8 ∧
      (asked State.reset 0x0D []).takeable = some ⟨0x0D, 7, []⟩ ∧ isRequestKind 0x0D = false ∧
      (asked State.reset 0x01 [0]).takeable = some ⟨0x01, 7, [0]⟩ ∧ lengthOk 0x01 [0] = false := by
  unfold State.takes; decide +kernel

theorem test_witness_AccessLevelFollowsStrap :
    (∀ v ∈ [(0 : Byte), 1, 2],
      (asked (engineer State.reset) 0x07 [v]).takes 0x07 ⟨0x07, 7, [v]⟩ ∧ (asked State.reset 0x07 [v]).takes 0x07 ⟨0x07, 7, [v]⟩) ∧
      (engineer State.reset).dev.strap = true ∧ State.reset.dev.strap = false ∧
      (asked State.reset 0x0B []).takes 0x0B ⟨0x0B, 7, []⟩ ∧ State.reset.dev.handler.access = .operator := by
  unfold State.takes; decide +kernel

/-- Items at the edges of their ranges; a cadence parameter changed; a standard changed on a LOCKED lane. -/
theorem test_witness_ConfigureLaneSetsNamedItems :
    (([(⟨5, 4⟩ : Item), ⟨9, 17⟩].map Item.code).Nodup ∧ (⟨5, 4⟩ : Item).enumOk = true) ∧
      (∀ b ∈ [([5, 0, 4, 9, 0, 17] : List Byte), [9, 0, 17], [1, 0, 1]],
        (asked State.reset 0x04 (0 :: b)).takes 0x04 ⟨0x04, 7, 0 :: b⟩ ∧ b.length % 3 = 0 ∧
          itemCodesOk (readItems b) = true ∧ (readItems b).all Item.enumOk = true ∧
          ¬((Settings.powerOn.applyItems (readItems b)).standard = .s625 ∧
            (Settings.powerOn.applyItems (readItems b)).tcMode = .drop)) ∧
      Settings.powerOn.cadenceChanged (Settings.powerOn.applyItems (readItems [5, 0, 4, 9, 0, 17])) = true ∧
      Settings.powerOn.cadenceChanged (Settings.powerOn.applyItems (readItems [9, 0, 17])) = false ∧
      (asked (op0 Controller.reset) 0x04 [0, 1, 0, 1]).takes 0x04 ⟨0x04, 7, [0, 1, 0, 1]⟩ ∧
      ((op0 Controller.reset).dev.lane 0).ingest.state ≠ .off ∧
      (readItems [1, 0, 1]).any (Item.changesFixed Settings.powerOn) = true := by
  unfold State.takes; decide +kernel

/-- The default profile with its border and gain above their ranges. -/
def loadBody (n : Nat) : List Byte := encodeProfile n { Profile.default with borderY := 1100, gain := 5000 }

theorem test_witness_HandlerTablesAreReplaced :
    (asked State.reset 0x05 (loadBody 7)).takes 0x05 ⟨0x05, 7, loadBody 7⟩ ∧ field (loadBody 7) 0 1 = 7 ∧
      (readProfile (loadBody 7)).filterSet ≤ 3 ∧ (readProfile (loadBody 7)).geometryOk = true ∧
      (asked State.reset 0x05 (loadBody 8)).takes 0x05 ⟨0x05, 7, loadBody 8⟩ ∧ 7 < field (loadBody 8) 0 1 ∧
      (asked State.reset 0x06 [0x91, 1, 0x92, 0, 0x93, 1]).takes 0x06 ⟨0x06, 7, [0x91, 1, 0x92, 0, 0x93, 1]⟩ ∧
      (asked (engineer State.reset) 0x08 [72, 8, 8, 8]).takes 0x08 ⟨0x08, 7, [72, 8, 8, 8]⟩ ∧
      (engineer State.reset).dev.handler.access = .engineering ∧
      (∀ l, ((engineer State.reset).dev.lane l).ingest.state = .off) ∧
      (∀ q ∈ ([72, 8, 8, 8] : List Byte), 8 ≤ q.toNat ∧ q.toNat ≤ 72) ∧ 72 + 8 + 8 + 8 ≤ 96 ∧
      (asked (engineer (op0 Controller.reset)) 0x08 [72, 8, 8, 8]).takes 0x08 ⟨0x08, 7, [72, 8, 8, 8]⟩ ∧
      ((engineer (op0 Controller.reset)).dev.lane 0).ingest.state ≠ .off := by
  unfold State.takes; decide +kernel

/-- Set 2's load opens, and then takes section 11's horizontal taps and a vertical phase. -/
def loading : State :=
  { engineer State.reset with
    dev := (engineer State.reset).dev.setFilter 2 FilterSet.linear.opened }

theorem test_witness_CoefficientLoad :
    (asked (engineer State.reset) 0x09 [2]).takes 0x09 ⟨0x09, 7, [2]⟩ ∧ (2 : Fin 4) ≠ 0 ∧
      (∀ l, ((engineer State.reset).dev.lane l).op.state.kind ≠ .transfer) ∧
      (asked (engineer State.reset) 0x09 [0]).takes 0x09 ⟨0x09, 7, [0]⟩ ∧
      (engineer State.reset).dev.handler.access = .engineering ∧ loading.dev.handler.access = .engineering ∧
      (asked loading 0x0A [2, 0, 31, 0, 0, 0xFC, 0, 0x48, 0, 0xFC, 0, 0, 0, 0, 0]).takes 0x0A
        ⟨0x0A, 7, [2, 0, 31, 0, 0, 0xFC, 0, 0x48, 0, 0xFC, 0, 0, 0, 0, 0]⟩ ∧
      (readTaps [0, 0, 0xFC, 0, 0x48, 0, 0xFC, 0, 0, 0, 0, 0]).sum = 16384 ∧
      (asked loading 0x0A [2, 1, 0, 0, 0, 0x40, 0, 0, 0, 0, 0]).takes 0x0A ⟨0x0A, 7, [2, 1, 0, 0, 0, 0x40, 0, 0, 0, 0, 0]⟩ ∧
      (readTaps [0, 0, 0x40, 0, 0, 0, 0, 0]).sum = 16384 ∧ loading.dev.handler.filters[2].complete = false := by
  unfold State.takes; decide +kernel

theorem test_witness_SelfTestRunsAndReplies :
    (asked (engineer State.reset) 0x0B []).takes 0x0B ⟨0x0B, 7, []⟩ ∧
      (∀ l, ((engineer State.reset).dev.lane l).ingest.state = .off) ∧
      (∀ l, ((engineer State.reset).dev.lane l).channel.queue = []) ∧
      (asked (engineer (op0 Controller.reset)) 0x0B []).takes 0x0B ⟨0x0B, 7, []⟩ ∧
      ((engineer (op0 Controller.reset)).dev.lane 0).ingest.state ≠ .off ∧
      (∃ t, exec .selfTest (asked (engineer State.reset) 0x0B []) = .next t ∧ t.dev.handler.state = .selfTesting 7) := by
  refine ⟨?_, by decide +kernel, by decide +kernel, ?_, by decide +kernel, _, rfl, by decide +kernel⟩ <;>
    (unfold State.takes; decide +kernel)

/-- ACQUIRE of an OFF, of a SEEKING, of a LOCKED and of a busy lane. -/
theorem test_witness_AcquireSeeksLock :
    (asked State.reset 0x10 [0, 30]).takes 0x10 ⟨0x10, 7, [0, 30]⟩ ∧ (State.reset.dev.lane 0).ingest.state = .off ∧
      (asked (ingest0 IngestLane.enabled) 0x10 [0, 30]).takes 0x10 ⟨0x10, 7, [0, 30]⟩ ∧
      ((ingest0 IngestLane.enabled).dev.lane 0).ingest.state = .seeking ∧
      (asked (op0 Controller.reset) 0x10 [0, 30]).takes 0x10 ⟨0x10, 7, [0, 30]⟩ ∧
      ((op0 Controller.reset).dev.lane 0).ingest.state = .locked ∧ ((op0 Controller.reset).dev.lane 0).op.state = .idle ∧
      ((op0 Controller.reset).dev.lane 0).op.held = none ∧ (30 : Byte) ≠ 0 ∧
      (asked (op0 (running .probing)) 0x10 [0, 30]).takes 0x10 ⟨0x10, 7, [0, 30]⟩ ∧
      ((op0 (running .probing)).dev.lane 0).op.state ≠ .idle := by
  unfold State.takes; decide +kernel

/-- A CUE for index 100, a SCAN, a PROBE and a LINE TEST that start; a lane 4; a lane that is OFF; one that is busy. -/
theorem test_witness_OperationsStart :
    (asked (op0 Controller.reset) 0x12 [0, 1, 0, 0, 0, 100, 0, 0, 0, 9]).takes 0x12
        ⟨0x12, 7, [0, 1, 0, 0, 0, 100, 0, 0, 0, 9]⟩ ∧
      readCue [0, 1, 0, 0, 0, 100, 0, 0, 0, 9] = some (.atOrAfter, 100, 9) ∧
      (asked (op0 Controller.reset) 0x15 [0, 2, 2, 0, 0, 0, 100, 1, 0, 0, 0, 1]).takes 0x15
        ⟨0x15, 7, [0, 2, 2, 0, 0, 0, 100, 1, 0, 0, 0, 1]⟩ ∧
      readScan [0, 2, 2, 0, 0, 0, 100, 1, 0, 0, 0, 1] = some scan100 ∧
      (asked (op0 Controller.reset) 0x16 [0]).takes 0x16 ⟨0x16, 7, [0]⟩ ∧
      (asked State.reset 0x17 [0]).takes 0x17 ⟨0x17, 7, [0]⟩ ∧ (State.reset.dev.lane 0).ingest.state = .off ∧
      (asked State.reset 0x16 [4]).takes 0x16 ⟨0x16, 7, [4]⟩ ∧ 4 ≤ field [4] 0 1 ∧
      ((op0 Controller.reset).dev.lane 0).ingest.state = .locked ∧
      (asked (op0 (running .probing)) 0x16 [0]).takes 0x16 ⟨0x16, 7, [0]⟩ ∧
      ((op0 (running .probing)).dev.lane 0).op.state ≠ .idle := by
  unfold State.takes; decide +kernel

/-- A TRANSFER with profile 0, start IMMEDIATE, end COUNT 15, FILM_AWARE (section 11.1). -/
def transferBody : List Byte := [0, 0, 0, 0, 0, 0, 0, 1, 0, 0, 0, 15, 2]

/-- The same with filter set 0 INCOMPLETE (a state that no run reaches). -/
def noFilters : State :=
  { op0 Controller.reset with dev := (op0 Controller.reset).dev.setFilter 0 FilterSet.linear.opened }

theorem test_witness_TransferArms :
    (asked (op0 Controller.reset) 0x13 transferBody).takes 0x13 ⟨0x13, 7, transferBody⟩ ∧ field transferBody 0 1 = 0 ∧
      ((op0 Controller.reset).dev.lane 0).op.state = .idle ∧ ((op0 Controller.reset).dev.lane 0).op.held = none ∧
      ((op0 Controller.reset).dev.lane 0).ingest.state = .locked ∧
      readTransfer transferBody = some ⟨0, .immediate, .count 15, false, true, false, false⟩ ∧
      (op0 Controller.reset).dev.handler.profiles[(0 : Fin 8)].filterSet = 0 ∧
      (op0 Controller.reset).dev.handler.filters[(0 : Fin 4)].complete = true ∧
      (asked noFilters 0x13 transferBody).takes 0x13 ⟨0x13, 7, transferBody⟩ ∧
      noFilters.dev.handler.filters[(0 : Fin 4)].complete = false ∧ (noFilters.dev.lane 0).ingest.state = .locked := by
  unfold State.takes; decide +kernel

/-- An AMEND to COUNT 2 of tag 9: no transfer, a DRAINING one, an ARMED one, a RUNNING one with 1 job and with 2. -/
theorem test_witness_AmendReplacesEnd :
    (∀ op ∈ [Controller.reset, { Controller.reset with lastTag := some ⟨9, true⟩ }, running (.transfer .draining params),
        running (.transfer .armed params), transferring params,
        { transferring params with jobsCreated := 2, jobs := [job8] }],
      (asked (op0 op) 0x14 [0, 9, 1, 0, 0, 0, 2]).takes 0x14 ⟨0x14, 7, [0, 9, 1, 0, 0, 0, 2]⟩ ∧
        ((op0 op).dev.lane 0).op = op) ∧
      readEnd (field [0, 9, 1, 0, 0, 0, 2] 2 1) (field [0, 9, 1, 0, 0, 0, 2] 3 4) = some (.count 2) ∧
      (transferring params).jobsCreated < 2 ∧ (transferring params).tag = 9 ∧ (running .idle).state.kind ≠ .transfer := by
  unfold State.takes; decide +kernel

/-- STOP of an IDLE lane and of one whose operation runs with its job RUNNING; RELEASE of that lane. -/
theorem test_witness_StopAndReleaseAbort :
    (asked State.reset 0x18 [0]).takes 0x18 ⟨0x18, 7, [0]⟩ ∧ (State.reset.dev.lane 0).op.state = .idle ∧
      (let s := { op0 (transferring params) with dev := { (op0 (transferring params)).dev with engine := ⟨some job8, 0⟩ } }
       (asked s 0x18 [0]).takes 0x18 ⟨0x18, 7, [0]⟩ ∧ (asked s 0x11 [0]).takes 0x11 ⟨0x11, 7, [0]⟩ ∧
         field [0] 0 1 = 0 ∧ (s.dev.lane 0).op.state ≠ .idle ∧ s.link.hasCompletion 0 = false ∧
         s.dev.engine.running = some job8 ∧ job8.lane = 0 ∧ job8.buffer = some 0) := by
  unfold State.takes; decide +kernel

/-! ## Witnesses: the laws -/

/-- A machine that is not the reset state: a LOCKED lane 0 with open field 8 in slot 0 and a LINE_START waiting. -/
def assembling : State :=
  { assemblingWith ⟨.locked, 8, 0, 0, true, some 1, some { field8 with slot := some 0 }, none⟩ Controller.reset with
    pending := [.lineStart 0] }

/-- It answers a next state. -/
theorem test_witness_assembling_steps : ∃ t, step assembling = .next t := ⟨_, rfl⟩

theorem test_witness_EveryStepKeepsLinkLaw : assembling.linkLaw :=
  ⟨⟨by decide +kernel, by decide +kernel, by unfold Link.completionsOf; decide +kernel⟩, by decide +kernel,
    fun _ h => absurd h nofun, by decide +kernel, fun l c h => by
      have hn : (assembling.dev.lane l).op.held = none := by clear h; revert l; decide +kernel
      rw [hn] at h; cases h⟩

theorem test_witness_EveryStepKeepsDramForm : assembling.dev.dram.wf = true := by decide +kernel

theorem test_witness_EveryStepKeepsLaneFigures : assembling.laneLaw ∧ assembling.decoderLaw := by
  constructor
  · unfold State.laneLaw LaneUnit.boundsOk; decide +kernel
  · intro l q ix h
    have hn : (assembling.dev.lane l).decoder.lastJudged = none := by clear h; revert l; decide +kernel
    rw [hn] at h; cases h

theorem test_witness_EveryStepKeepsFreeList : assembling.dev.freeListOk := by
  unfold Device.freeListOk; decide +kernel

theorem test_witness_EveryStepKeepsFieldStore : assembling.dev.storeOk := by
  have hrun : assembling.dev.engine.running = none := by decide +kernel
  refine ⟨test_witness_EveryStepKeepsFreeList, fun i => ?_, fun l => ⟨fun f i h hs => ?_, ?_, ?_, ?_, ?_, ?_⟩⟩
  · refine ⟨?_, ?_, ?_, ?_, ?_, ?_, fun j h => ?_⟩
    · revert i; decide +kernel
    · revert i; decide +kernel
    · revert i; decide +kernel
    · revert i; decide +kernel
    · revert i; decide +kernel
    · revert i; decide +kernel
    · rw [hrun] at h; cases h
  · have hl : (assembling.dev.lane l).ingest.openField.isSome = true → (assembling.dev.lane l).ingest.state = .locked := by
      clear h hs; revert l; decide +kernel
    exact hl (by rw [h]; rfl)
  · have hc : (assembling.dev.lane l).chain = none := by revert l; decide +kernel
    intro i h; rw [hc] at h; rcases h with h | h <;> cases h
  · have hj : (assembling.dev.lane l).op.jobs = [] := by revert l; decide +kernel
    intro j h; rw [hj] at h; cases h
  · revert l; decide +kernel
  · have ho : (assembling.dev.lane l).ingest.state = .off → (assembling.dev.lane l).ingest.openField = none ∧
        (assembling.dev.lane l).chain = none ∧ (assembling.dev.lane l).window = [] ∧
        (assembling.dev.lane l).op.jobs = [] := by revert l; decide +kernel
    intro h; obtain ⟨a, b, c, d⟩ := ho h
    exact ⟨a, b, c, d, fun j hj => by rw [hrun] at hj; cases hj⟩
  · revert l; decide +kernel

theorem test_witness_EveryStepKeepsFrameBuffers : assembling.dev.buffersOk := by
  refine ⟨?_, fun _ _ h => absurd h nofun⟩
  unfold Channel.queueOk; decide +kernel

theorem test_witness_EveryStepKeepsSettingsAndTrackers :
    (assembling.dev.quotasOk ∧ assembling.pending.head? ≠ some .partition) ∧ assembling.settingsLaw ∧
      assembling.monitorLaw := by
  refine ⟨⟨by unfold Device.quotasOk; decide +kernel, by decide +kernel⟩, ?_, ?_⟩
  · unfold State.settingsLaw Settings.ok; decide +kernel
  · intro l
    have hm : (assembling.dev.lane l).monitor = Monitor.reset := by revert l; decide +kernel
    have hs : (assembling.dev.lane l).settings = Settings.powerOn := by revert l; decide +kernel
    rw [hm, hs]
    unfold Monitor.ok
    exact ⟨by decide, by decide, fun _ => by decide, fun h => absurd rfl h⟩

theorem test_witness_LanesAreIndependent :
    (eventLane (.lineStart 0) = some 0 ∧ ∃ t, exec (.lineStart 0) assembling = .next t) ∧
      mayTouchDram .grant = false ∧ ∃ t, exec .grant ready0 = .next t := ⟨⟨rfl, _, rfl⟩, rfl, _, rfl⟩

end Sys2Proof.Tests
end

/-! SUPPORT. What an operation's own events leave alone: everything of the lanes but the Operation Controllers and the
Cadence Monitors, the number of pending jobs, and the whole of the part outside the lanes. -/
namespace Sys2Proof.Machine
section
variable {d d' : Device} {e : Ev} {l k : Lane} {op : Controller} {c : Cause} {g : Counts → Counts}

/-! ## Controllers -/

@[simp] theorem Controller.observe_state : (op.observe c).state = op.state := by
  unfold Controller.observe; split <;> rfl
@[simp] theorem Controller.observe_jobs : (op.observe c).jobs = op.jobs := by
  unfold Controller.observe; split <;> rfl
@[simp] theorem Controller.observe_counts : (op.observe c).counts = op.counts := by
  unfold Controller.observe; split <;> rfl
@[simp] theorem Controller.observe_tag : (op.observe c).tag = op.tag := by
  unfold Controller.observe; split <;> rfl
@[simp] theorem Controller.observe_endClass : (op.observe c).endClass = op.endClass := by
  unfold Controller.observe; split <;> rfl
@[simp] theorem Controller.observe_endCause : (op.observe c).endCause = op.endCause := by
  unfold Controller.observe; split <;> rfl
@[simp] theorem Controller.observe_transferId : (op.observe c).transferId = op.transferId := by
  unfold Controller.observe; split <;> rfl

@[simp] theorem Controller.count_state : (op.count g).state = op.state := by
  unfold Controller.count; split <;> rfl
@[simp] theorem Controller.count_jobs : (op.count g).jobs = op.jobs := by
  unfold Controller.count; split <;> rfl
@[simp] theorem Controller.count_transferId : (op.count g).transferId = op.transferId := by
  unfold Controller.count; split <;> rfl

@[simp] theorem Controller.recordEnd_jobs (x : EndClass) (y : Option Cause) : (op.recordEnd x y).jobs = op.jobs := rfl

@[simp] theorem Controller.nameField_jobs (r : FieldRecord) : (op.nameField r).jobs = op.jobs := by
  unfold Controller.nameField; split <;> rfl
@[simp] theorem Controller.noJobFor_jobs (r : FieldRecord) : (op.noJobFor r).jobs = op.jobs := by
  unfold Controller.noJobFor; split <;> rfl

@[simp] theorem Controller.drop_state : op.drop.state = op.state := by simp [Controller.drop]
@[simp] theorem Controller.drop_jobs : op.drop.jobs = op.jobs := by simp [Controller.drop]

theorem OpState.isIdle_iff {x : OpState} : x.isIdle = true ↔ x = .idle := by cases x <;> simp [OpState.isIdle]

/-! ## What stands beside the operations -/

/-- What of a lane is neither its Operation Controller's nor its Cadence Monitor's. -/
def LaneUnit.besideOp (u : LaneUnit) : LaneUnit := { u with op := Controller.reset, monitor := Monitor.reset }

/-- What of the part an operation's own events leave alone; of the controllers it is the number of pending jobs. -/
structure Beside where
  lanes    : Lane → LaneUnit × Nat
  slots    : Vector Slot 96
  freeList : List SlotId
  dram     : Dram
  engine   : Engine
  handler  : Handler
  strap    : Bool

/-- The part of a device that stands beside the operations. -/
def Device.beside (d : Device) : Beside where
  lanes := fun k => ((d.lane k).besideOp, (d.lane k).op.jobs.length)
  slots := d.slots
  freeList := d.freeList
  dram := d.dram
  engine := d.engine
  handler := d.handler
  strap := d.strap

section Projections
variable (h : d'.beside = d.beside)
include h

theorem Device.jobsLength_of_beside (k : Lane) : (d'.lane k).op.jobs.length = (d.lane k).op.jobs.length :=
  congrArg (fun b => (b.lanes k).2) h
theorem Device.ingest_of_beside (k : Lane) : (d'.lane k).ingest = (d.lane k).ingest :=
  congrArg (fun b => (b.lanes k).1.ingest) h
theorem Device.settings_of_beside (k : Lane) : (d'.lane k).settings = (d.lane k).settings :=
  congrArg (fun b => (b.lanes k).1.settings) h
theorem Device.chain_of_beside (k : Lane) : (d'.lane k).chain = (d.lane k).chain :=
  congrArg (fun b => (b.lanes k).1.chain) h
theorem Device.decoder_of_beside (k : Lane) : (d'.lane k).decoder = (d.lane k).decoder :=
  congrArg (fun b => (b.lanes k).1.decoder) h
theorem Device.quota_of_beside (k : Lane) : (d'.lane k).quota = (d.lane k).quota :=
  congrArg (fun b => (b.lanes k).1.quota) h
theorem Device.window_of_beside (k : Lane) : (d'.lane k).window = (d.lane k).window :=
  congrArg (fun b => (b.lanes k).1.window) h
theorem Device.overrun_of_beside (k : Lane) : (d'.lane k).overrun = (d.lane k).overrun :=
  congrArg (fun b => (b.lanes k).1.overrun) h
theorem Device.channel_of_beside (k : Lane) : (d'.lane k).channel = (d.lane k).channel :=
  congrArg (fun b => (b.lanes k).1.channel) h
theorem Device.slots_of_beside : d'.slots = d.slots := congrArg Beside.slots h
theorem Device.freeList_of_beside : d'.freeList = d.freeList := congrArg Beside.freeList h
theorem Device.dram_of_beside : d'.dram = d.dram := congrArg Beside.dram h
theorem Device.engine_of_beside : d'.engine = d.engine := congrArg Beside.engine h
theorem Device.slot_of_beside (i : SlotId) : d'.slot i = d.slot i := congrArg (fun b => b.slots[i]) h

end Projections

theorem Device.beside_modLane {f : LaneUnit → LaneUnit} (h : (f (d.lane l)).besideOp = (d.lane l).besideOp)
    (hj : (f (d.lane l)).op.jobs.length = (d.lane l).op.jobs.length) : (d.modLane l f).beside = d.beside := by
  simp only [Device.beside, Device.modLane_slots, Device.modLane_freeList, Device.modLane_dram, Device.modLane_engine,
    Device.modLane_handler, Device.modLane_strap, Beside.mk.injEq, and_true]
  funext k
  rw [Device.lane_modLane]
  split
  · subst k; rw [h, hj]
  · rfl

theorem Ev.beside_modOp {f : Controller → Controller}
    (h : (f (e.dev.lane l).op).jobs.length = (e.dev.lane l).op.jobs.length) :
    (e.modOp l f).dev.beside = e.dev.beside := Device.beside_modLane rfl h

/-! ## The operations' own events -/

@[simp] theorem Ev.beside_setMonitor (m : Monitor) (q : Nat) : (e.setMonitor l m q).dev.beside = e.dev.beside := by
  unfold Ev.setMonitor
  dsimp only
  split <;> exact Device.beside_modLane rfl rfl

@[simp] theorem Ev.beside_resetTracker (q : Nat) : (e.resetTracker l q).dev.beside = e.dev.beside :=
  Ev.beside_setMonitor _ _

@[simp] theorem Ev.beside_complete (p : OpPart) : (e.complete l p).dev.beside = e.dev.beside :=
  Device.beside_modLane (f := fun u => { u with op := _ }) rfl rfl

@[simp] theorem Ev.beside_endNow (x : EndClass) (y : Option Cause) (p : OpPart) :
    (e.endNow l x y p).dev.beside = e.dev.beside := by
  rw [Ev.endNow, Ev.beside_complete, Ev.beside_modOp rfl]

@[simp] theorem Ev.beside_settle : (e.settle l).dev.beside = e.dev.beside := by
  unfold Ev.settle
  split
  · split <;> simp
  · rfl

@[simp] theorem Ev.beside_endTransfer (x : EndClass) (y : Option Cause) :
    (e.endTransfer l x y).dev.beside = e.dev.beside := by
  rw [Ev.endTransfer, Ev.beside_settle, Ev.beside_modOp]
  split <;> rfl

/-- Without a next field a waiting job becomes READY with no reference taken. -/
@[simp] theorem Device.beside_readyWaiting_none : (d.readyWaiting l none).beside = d.beside := by
  unfold Device.readyWaiting
  split
  · rfl
  · exact Device.beside_modLane rfl (List.length_map _)

@[simp] theorem Ev.beside_readyWaiting_none : (e.readyWaiting l none).dev.beside = e.dev.beside :=
  Device.beside_readyWaiting_none

@[simp] theorem Ev.beside_sourceChange (x : LaneState) : (e.sourceChange l x).dev.beside = e.dev.beside := by
  unfold Ev.sourceChange
  dsimp only
  split <;> simp

@[simp] theorem Ev.beside_lockLoss (x : LaneState) (q : Option Nat) :
    (e.lockLoss l x q).dev.beside = e.dev.beside := by
  unfold Ev.lockLoss
  dsimp only
  rw [Ev.beside_sourceChange]
  repeat' split
  all_goals simp

@[simp] theorem Ev.beside_discontinuity (q : Nat) : (e.discontinuity l q).dev.beside = e.dev.beside := by
  simp [Ev.discontinuity]

@[simp] theorem Ev.beside_acquired : (e.acquired l).dev.beside = e.dev.beside := by
  unfold Ev.acquired
  split <;> simp

@[simp] theorem Ev.beside_abort : (e.abort l).dev.beside = e.dev.beside := by
  unfold Ev.abort
  split <;> simp

@[simp] theorem Ev.beside_stopOnDrop : (e.stopOnDrop l).dev.beside = e.dev.beside := by
  unfold Ev.stopOnDrop
  repeat' split
  all_goals simp

@[simp] theorem Ev.beside_reportFieldStart : (e.reportFieldStart l).dev.beside = e.dev.beside := by
  unfold Ev.reportFieldStart
  dsimp only
  split
  · split <;> simp [Ev.beside_modOp, -Ev.modOp_dev]
  · rfl

@[simp] theorem Ev.beside_waitExpiry : (e.waitExpiry l).dev.beside = e.dev.beside := by
  unfold Ev.waitExpiry
  dsimp only
  split
  · split <;> simp
  · rfl

@[simp] theorem Ev.beside_windowEnd (x : SeenLevels) : (e.windowEnd l x).dev.beside = e.dev.beside := by
  unfold Ev.windowEnd
  split <;> simp

@[simp] theorem Ev.beside_watch (f : LineWatch → LineWatch) : (e.watch l f).dev.beside = e.dev.beside := by
  refine Ev.beside_modOp ?_
  split <;> rfl

@[simp] theorem Ev.beside_amend (x : SubState) (p : TransferParams) (t : TransferEnd) :
    (e.amend l x p t).dev.beside = e.dev.beside := by
  unfold Ev.amend
  dsimp only
  split <;> simp [Ev.beside_modOp, -Ev.modOp_dev]

@[simp] theorem Ev.beside_cueField (r : FieldRecord) (m : CueMode) (t x : Nat) :
    (e.cueField l r m t x).dev.beside = e.dev.beside := by
  unfold Ev.cueField
  dsimp only
  repeat' split
  all_goals simp [Ev.beside_modOp, -Ev.modOp_dev]

@[simp] theorem Ev.beside_scanField (r : FieldRecord) (p : ScanParams) :
    (e.scanField l r p).dev.beside = e.dev.beside := by
  unfold Ev.scanField
  dsimp only
  repeat' split
  all_goals simp [Ev.beside_modOp, -Ev.modOp_dev]

@[simp] theorem Ev.beside_testEnd (r : FieldRecord) : (e.testEnd l r).dev.beside = e.dev.beside := by
  unfold Ev.testEnd
  dsimp only
  repeat' split
  all_goals simp

end
end Sys2Proof.Machine

/-! SUPPORT. The bounds of the lanes' figures and the Label Decoder's law, and which events leave the stacked DRAM alone:
one lemma for each event, by what it does to the lanes. -/
namespace Sys2Proof.Machine
section
variable {d d' d'' : Device} {e : Ev} {l : Lane} {i : SlotId} {u v w : LaneUnit} {f : LaneUnit → LaneUnit}

/-! ## The end of an event -/

theorem issueNotice_beside (p : Device × Link) (n : Notice) : (issueNotice p n).1.beside = p.1.beside := by
  cases n with
  | completion c =>
    show (issueCompletion p.1 p.2 c).1.beside = _
    rcases issueCompletion_cases p.1 p.2 c with ⟨-, h⟩ | ⟨-, h⟩ <;> rw [h]
    exact Device.beside_modLane rfl rfl
  | _ => rfl

/-- The end of an event changes no more than which completions are held. -/
theorem Ev.beside_commit (e : Ev) (k : Link) : (e.commit k).1.beside = e.dev.beside :=
  foldl_keeps issueNotice (fun p => p.1.beside) issueNotice_beside _ _

/-! ## Keeping the figures -/

/-- A lane's change from `u` to `v` keeps its bounds and its Label Decoder's law. -/
def LaneUnit.KeepsFigures (u v : LaneUnit) : Prop := (u.boundsOk → v.boundsOk) ∧ (u.decoder.ok → v.decoder.ok)

theorem LaneUnit.KeepsFigures.refl (u : LaneUnit) : u.KeepsFigures u := ⟨id, id⟩

theorem LaneUnit.KeepsFigures.trans (h : u.KeepsFigures v) (h' : v.KeepsFigures w) : u.KeepsFigures w :=
  ⟨h'.1 ∘ h.1, h'.2 ∘ h.2⟩

/-- A change of anything but the figures. -/
theorem LaneUnit.KeepsFigures.of_eq (hw : v.window = u.window) (hj : v.op.jobs.length = u.op.jobs.length)
    (hi : v.ingest = u.ingest) (hd : v.decoder = u.decoder) : u.KeepsFigures v := by
  unfold LaneUnit.KeepsFigures LaneUnit.boundsOk
  rw [hw, hj, hi, hd]
  exact ⟨id, id⟩

/-- A change of the Ingest Lane that keeps its counters inside their widths. -/
theorem LaneUnit.KeepsFigures.of_ingest {g : IngestLane} (hq : u.boundsOk → g.sequence ≤ 4294967295)
    (hg : u.boundsOk → g.goodRun ≤ 65535) (hb : u.boundsOk → g.badRun ≤ 2) :
    u.KeepsFigures { u with ingest := g } :=
  ⟨fun h => ⟨h.1, h.2.1, hq h, hg h, hb h⟩, id⟩

/-- A change of the Label Decoder that ends in its law. -/
theorem LaneUnit.KeepsFigures.of_decoder {x : LabelDecoder} (h : x.ok) :
    u.KeepsFigures { u with decoder := x } := ⟨id, fun _ => h⟩

/-- A change of the Operation Controller that leaves at most the pending jobs there were, or at most 32. -/
theorem LaneUnit.KeepsFigures.of_op {op : Controller} (h : u.boundsOk → op.jobs.length ≤ 32) :
    u.KeepsFigures { u with op := op } :=
  ⟨fun hb => ⟨hb.1, h hb, hb.2.2⟩, id⟩

/-- A change of the history window that leaves at most 4 members. -/
theorem LaneUnit.KeepsFigures.of_window {x : List SlotId} (h : u.boundsOk → x.length ≤ 4) :
    u.KeepsFigures { u with window := x } :=
  ⟨fun hb => ⟨h hb, hb.2⟩, id⟩

/-- Every lane's change between two states of the part keeps its figures. -/
def Device.KeepsFigures (d e : Device) : Prop := ∀ k, (d.lane k).KeepsFigures (e.lane k)

theorem Device.KeepsFigures.refl (d : Device) : d.KeepsFigures d := fun _ => .refl _

theorem Device.KeepsFigures.trans (h : d.KeepsFigures d') (h' : d'.KeepsFigures d'') : d.KeepsFigures d'' :=
  fun k => (h k).trans (h' k)

theorem Device.KeepsFigures.of_beside (h : d'.beside = d.beside) : d.KeepsFigures d' := fun k =>
  .of_eq (Device.window_of_beside h k) (Device.jobsLength_of_beside h k) (Device.ingest_of_beside h k)
    (Device.decoder_of_beside h k)

theorem Device.KeepsFigures.of_lanes (h : d'.lanes = d.lanes) : d.KeepsFigures d' := fun k =>
  .of_eq (by simp [Device.lane, h]) (by simp [Device.lane, h]) (by simp [Device.lane, h]) (by simp [Device.lane, h])

theorem Device.KeepsFigures.modLane (h : (d.lane l).KeepsFigures (f (d.lane l))) :
    d.KeepsFigures (d.modLane l f) := fun k => by
  rw [Device.lane_modLane]
  split
  · subst k; exact h
  · exact .refl _

/-- A change of the part that keeps the lanes' figures and, where `q` holds, leaves the stacked DRAM alone. -/
structure Device.Steady (q : Prop) (d e : Device) : Prop where
  figures : d.KeepsFigures e
  dram    : q → e.dram = d.dram

section
variable {q : Prop}

theorem Device.Steady.refl (d : Device) : d.Steady q d := ⟨.refl d, fun _ => rfl⟩

theorem Device.Steady.trans (h : d.Steady q d') (h' : d'.Steady q d'') : d.Steady q d'' :=
  ⟨h.figures.trans h'.figures, fun hq => (h'.dram hq).trans (h.dram hq)⟩

theorem Device.Steady.of_beside (h' : d''.beside = d'.beside) (h : d.Steady q d') : d.Steady q d'' :=
  h.trans ⟨.of_beside h', fun _ => Device.dram_of_beside h'⟩

theorem Device.Steady.of_lanes (hl : d''.lanes = d'.lanes) (hd : d''.dram = d'.dram) (h : d.Steady q d') :
    d.Steady q d'' := h.trans ⟨.of_lanes hl, fun _ => hd⟩

theorem Device.Steady.modLane (hf : (d'.lane l).KeepsFigures (f (d'.lane l))) (h : d.Steady q d') :
    d.Steady q (d'.modLane l f) := h.trans ⟨.modLane hf, fun _ => rfl⟩

theorem Device.Steady.setSlot {x : Slot} (h : d.Steady q d') : d.Steady q (d'.setSlot i x) :=
  .of_lanes (d' := d') rfl rfl h

theorem Device.Steady.giveBack {refs writing : List SlotId} (h : d.Steady q d') :
    d.Steady q (d'.giveBack refs writing) :=
  h.of_lanes (d'.giveBack_lanes refs writing) (d'.giveBack_dram refs writing)

theorem Ev.steady_modLane (hf : (e.dev.lane l).KeepsFigures (f (e.dev.lane l))) (h : d.Steady q e.dev) :
    d.Steady q (e.modLane l f).dev := h.modLane hf

theorem Ev.steady_modOp {g : Controller → Controller}
    (hg : (g (e.dev.lane l).op).jobs.length = (e.dev.lane l).op.jobs.length) (h : d.Steady q e.dev) :
    d.Steady q (e.modOp l g).dev := h.of_beside (Ev.beside_modOp hg)

theorem Ev.steady_setChain {c : Option ChainField} (h : d.Steady q e.dev) : d.Steady q (e.setChain l c).dev :=
  Ev.steady_modLane (.of_eq rfl rfl rfl rfl) h

theorem Ev.steady_modRecord {r : FieldRecord → FieldRecord} (h : d.Steady q e.dev) :
    d.Steady q (e.modDev fun d => d.modRecord i r).dev := h.setSlot

theorem Ev.steady_setDram {m : Dram} (hq : ¬q) (h : d.Steady q e.dev) : d.Steady q (e.setDram m).dev :=
  h.trans ⟨.of_lanes rfl, fun hq' => absurd hq' hq⟩

theorem Ev.steady_giveBack {refs writing : List SlotId} (h : d.Steady q e.dev) :
    d.Steady q (e.modDev fun d => d.giveBack refs writing).dev := h.giveBack

/-! ## The completion chain -/

theorem LabelDecoder.after_ok (dec : LabelDecoder) (q : Nat) (j : Judgement) : (dec.after q j).ok := by
  intro q' ix h
  simp only [LabelDecoder.after, Option.some.injEq, JudgedField.mk.injEq] at h
  obtain ⟨rfl, hix⟩ := h
  exact ⟨j.counting, by simp [LabelDecoder.after, hix]⟩

theorem LabelDecoder.reset_ok : LabelDecoder.reset.ok := fun _ _ h => by cases h

theorem Device.Steady.joinWindow (h : d.Steady q d') : d.Steady q (d'.joinWindow l i) := by
  unfold Device.joinWindow
  dsimp only
  split
  · rename_i hw
    have hlen := congrArg List.length hw
    simp only [List.length_append, List.length_cons, List.length_nil] at hlen
    refine .giveBack (.modLane (.of_window fun hb => ?_) h.setSlot)
    have := hb.1
    simp only [Device.setSlot_lane] at this
    simp only [List.length_cons]; omega
  · rename_i hw
    refine .modLane (.of_window fun _ => ?_) h.setSlot
    match hm : (d'.lane l).window ++ [i], hw with
    | [], _ | [_], _ | [_, _], _ | [_, _, _], _ | [_, _, _, _], _ => simp
    | w0 :: w1 :: w2 :: w3 :: w4 :: rest, hw => exact absurd rfl (hw w0 w1 w2 w3 w4 rest)

theorem Ev.steady_repairField (hq : ¬q) (h : d.Steady q e.dev) : d.Steady q (e.repairField l i).dev := by
  unfold Ev.repairField
  split
  · exact h
  · refine Ev.steady_setChain (Ev.steady_modOp ?_ (Ev.steady_setDram hq (Ev.steady_modRecord h)))
    simp

theorem Ev.steady_judgeLabel (h : d.Steady q e.dev) : d.Steady q (e.judgeLabel l i).dev := by
  unfold Ev.judgeLabel
  split
  · exact h
  · refine Ev.steady_setChain (Device.Steady.joinWindow (Ev.steady_modOp ?_ (Ev.steady_modLane
      (.of_decoder (LabelDecoder.after_ok _ _ _)) (Ev.steady_modRecord h))))
    split <;> simp

theorem Ev.steady_monitorField (h : d.Steady q e.dev) : d.Steady q (e.monitorField l i).dev := by
  unfold Ev.monitorField
  split
  · exact h
  · exact Ev.steady_modLane (.of_eq rfl rfl rfl rfl) (.of_beside (Ev.beside_setMonitor _ _) (Ev.steady_modRecord h))

theorem Device.Steady.readyWaiting {n : Option SlotId} (h : d.Steady q d') : d.Steady q (d'.readyWaiting l n) := by
  unfold Device.readyWaiting
  split
  · exact h
  · refine .modLane (.of_eq rfl (List.length_map _) rfl rfl) ?_
    cases n
    · exact h
    · exact h.setSlot

theorem Device.Steady.createJob {r : FieldRecord} {x : Snapshot} {b : Bool}
    (hj : (d'.lane l).op.jobs.length < 32) (h : d.Steady q d') : d.Steady q (d'.createJob l i r x b) := by
  unfold Device.createJob
  refine .modLane (.of_op fun _ => ?_) (h.of_lanes (Device.takeRefs_lanes _ _) (Device.takeRefs_dram _ _))
  simp only [Device.lane, Device.takeRefs_lanes] at hj ⊢
  simp only [List.length_append, List.length_singleton]
  exact hj

theorem Ev.steady_dueJob {r : FieldRecord} {p : TransferParams} (h : d.Steady q e.dev) :
    d.Steady q (e.dueJob l i r p).dev := by
  unfold Ev.dueJob
  dsimp only
  split
  · split
    · exact .createJob ‹_› h
    · exact h
  · have h1 := Ev.steady_modOp (l := l) (g := fun op => { op.drop with pendingDiscontinuity := true }) (by simp) h
    split
    · exact h1.of_beside (Ev.beside_endTransfer _ _)
    · exact h1

theorem Ev.steady_judgeRunning {r : FieldRecord} {p : TransferParams} {b : Bool} (h : d.Steady q e.dev) :
    d.Steady q (e.judgeRunning l i r p b).dev := by
  have hn := Ev.steady_modOp (l := l) (g := fun op => op.noJobFor r) (by simp) h
  unfold Ev.judgeRunning
  extract_lets past
  split
  · exact hn.of_beside (Ev.beside_endTransfer _ _)
  split
  · exact hn.of_beside (Ev.beside_endTransfer _ _)
  split
  · exact .of_beside (Ev.beside_testEnd _) (Ev.steady_modOp (by simp) h)
  · exact .of_beside (Ev.beside_testEnd _) (Ev.steady_dueJob h)

theorem Ev.steady_judgeArmed {r : FieldRecord} {p : TransferParams} (h : d.Steady q e.dev) :
    d.Steady q (e.judgeArmed l i r p).dev := by
  unfold Ev.judgeArmed
  dsimp only
  split
  · refine Ev.steady_judgeRunning ?_
    have h1 := Ev.steady_modOp (l := l) (g := fun op => { op with state := .transfer .running p }) rfl h
    split
    · exact Ev.steady_modOp (by simp) h1
    · exact h1
  · exact Ev.steady_modOp (by simp) h

theorem Ev.steady_operationField {r : FieldRecord} (h : d.Steady q e.dev) :
    d.Steady q (e.operationField l i r).dev := by
  unfold Ev.operationField
  split
  case h_7 => exact Ev.steady_judgeArmed h
  case h_8 => exact Ev.steady_judgeRunning h
  all_goals exact h.of_beside (by simp)

theorem Ev.steady_takeField (h : d.Steady q e.dev) : d.Steady q (e.takeField l i).dev := by
  unfold Ev.takeField
  split
  · exact h
  · refine Ev.steady_setChain (Ev.steady_operationField (Ev.steady_modOp ?_ (Device.Steady.readyWaiting h)))
    dsimp only
    split <;> simp

/-- Of the chain's events the repair alone writes to the stacked DRAM. -/
theorem Ev.steady_chainStep (hq : q → ∀ i, (e.dev.lane l).chain ≠ some ⟨.repair, i⟩) (h : d.Steady q e.dev) :
    d.Steady q (e.chainStep l).dev := by
  unfold Ev.chainStep
  split
  · exact h
  · exact Ev.steady_repairField (fun hq' => hq hq' _ ‹_›) h
  · exact Ev.steady_judgeLabel h
  · exact Ev.steady_monitorField h
  · exact Ev.steady_takeField h

theorem Ev.steady_chainStage {x : ChainStage} (hq : q → x ≠ .repair) (h : d.Steady q e.dev) :
    d.Steady q (e.chainStage l x).dev := by
  unfold Ev.chainStage
  split
  · rename_i c hc
    split
    · rename_i hx
      refine Ev.steady_chainStep (fun hq' i hi => hq hq' ?_) h
      obtain rfl : c = ⟨.repair, i⟩ := Option.some.inj (hc.symm.trans hi)
      exact hx.symm
    · exact h
  · exact h

theorem Ev.steady_finishChain (hq : ¬q) (h : d.Steady q e.dev) : d.Steady q (e.finishChain l).dev := by
  have hr {e' : Ev} (hq' : q) : ∀ i, (e'.dev.lane l).chain ≠ some ⟨.repair, i⟩ := absurd hq' hq
  exact Ev.steady_chainStep hr (Ev.steady_chainStep hr (Ev.steady_chainStep hr (Ev.steady_chainStep hr h)))

end
end
end Sys2Proof.Machine

namespace Sys2Proof.Machine
section
variable {d d' : Device} {e : Ev} {l : Lane} {i : SlotId} {q : Prop}

/-! ## The Ingest Lane -/

theorem Ev.steady_note {n : Notice} (h : d.Steady q e.dev) : d.Steady q (e.note n).dev := h

theorem Ev.steady_modIngest {g : IngestLane → IngestLane}
    (hq : (e.dev.lane l).boundsOk → (g (e.dev.lane l).ingest).sequence ≤ 4294967295)
    (hg : (e.dev.lane l).boundsOk → (g (e.dev.lane l).ingest).goodRun ≤ 65535)
    (hb : (e.dev.lane l).boundsOk → (g (e.dev.lane l).ingest).badRun ≤ 2) (h : d.Steady q e.dev) :
    d.Steady q (e.modIngest l g).dev := Ev.steady_modLane (.of_ingest hq hg hb) h

theorem Ev.steady_setLaneState {x : LaneState} {n : Nat} (h : d.Steady q e.dev) :
    d.Steady q (e.setLaneState l x n).dev :=
  Ev.steady_note (Ev.steady_modIngest (fun hb => hb.2.2.1) (fun _ => Nat.zero_le _) (fun _ => Nat.zero_le _) h)

theorem Ev.steady_resetLaneBlocks {n : Nat} (h : d.Steady q e.dev) : d.Steady q (e.resetLaneBlocks l n).dev :=
  .of_beside (Ev.beside_setMonitor _ _) (Ev.steady_modLane (.of_decoder LabelDecoder.reset_ok) h)

theorem Ev.steady_enableLane {n : Nat} (h : d.Steady q e.dev) : d.Steady q (e.enableLane l n).dev :=
  Ev.steady_note (Ev.steady_resetLaneBlocks (Ev.steady_modIngest
    (fun _ => Nat.zero_le _) (fun _ => Nat.zero_le _) (fun _ => Nat.zero_le _) h))

theorem satAdd_le (top a b : Nat) : satAdd top a b ≤ top := Nat.min_le_left _ _

theorem Ev.steady_lockedClose {b : Bool} {k : Option Nat} {n : Nat} (h : d.Steady q e.dev) :
    d.Steady q (e.lockedClose l b k n).dev := by
  unfold Ev.lockedClose
  split
  · exact Ev.steady_modIngest (fun hb => hb.2.2.1) (fun _ => satAdd_le _ _ _) (fun _ => Nat.zero_le _) h
  split
  · exact .of_beside (Ev.beside_lockLoss _ _) (Ev.steady_setLaneState h)
  · exact Ev.steady_modIngest (fun hb => hb.2.2.1) (fun _ => Nat.zero_le _) (fun _ => Nat.le_of_not_le ‹_›) h

theorem Ev.steady_seekingClose {b : Bool} {n : Nat} (h : d.Steady q e.dev) :
    d.Steady q (e.seekingClose l b n).dev := by
  unfold Ev.seekingClose
  dsimp only
  split
  · exact Ev.steady_modIngest (fun hb => hb.2.2.1) (fun _ => Nat.zero_le _) (fun hb => hb.2.2.2.2) h
  split
  · exact .of_beside Ev.beside_acquired (Ev.steady_setLaneState h)
  · exact Ev.steady_modIngest (fun hb => hb.2.2.1) (fun _ => satAdd_le _ _ _) (fun hb => hb.2.2.2.2) h

theorem Ev.steady_keepField {f : OpenField} (h : d.Steady q e.dev) : d.Steady q (e.keepField l i f).dev :=
  Ev.steady_setChain (Ev.steady_modIngest (fun hb => hb.2.2.1) (fun hb => hb.2.2.2.1) (fun hb => hb.2.2.2.2)
    (Ev.steady_modRecord h))

theorem Ev.steady_discontinuity {n : Nat} (h : d.Steady q e.dev) : d.Steady q (e.discontinuity l n).dev :=
  h.of_beside (Ev.beside_discontinuity n)

theorem Ev.steady_closeLocked {f : OpenField} {p : Option Parity} {w : Bool} {n : Nat} (hq : ¬q)
    (h : d.Steady q e.dev) : d.Steady q (e.closeLocked l f p w n).ev.dev := by
  unfold Ev.closeLocked
  dsimp only
  split
  · exact Ev.steady_lockedClose (Ev.steady_discontinuity h)
  split
  · exact Ev.steady_lockedClose (Ev.steady_discontinuity (Ev.steady_setDram hq h))
  split
  · exact Ev.steady_lockedClose (Ev.steady_setDram hq h)
  · exact Ev.steady_lockedClose (Ev.steady_keepField (Ev.steady_setDram hq h))

theorem Ev.steady_closeOpenField {w : Bool} {n : Nat} (hq : ¬q) (h : d.Steady q e.dev) :
    d.Steady q (e.closeOpenField l w n).ev.dev := by
  unfold Ev.closeOpenField
  dsimp only
  split
  · exact h
  · have h1 {m : Dram} {x : Option OpenField} {y : Option Parity} : d.Steady q
        ((e.setDram m).modIngest l fun g => { g with openField := x, prevParity := y }).dev :=
      Ev.steady_modIngest (fun hb => hb.2.2.1) (fun hb => hb.2.2.2.1) (fun hb => hb.2.2.2.2) (Ev.steady_setDram hq h)
    split
    · exact Ev.steady_closeLocked hq h1
    · exact Ev.steady_seekingClose h1
    · exact h1

theorem Ev.steady_openEpisode {n : Nat} (h : d.Steady q e.dev) : d.Steady q (e.openEpisode l n).dev := by
  unfold Ev.openEpisode
  split
  · exact h
  · exact Ev.steady_note (Ev.steady_modLane (.of_eq rfl rfl rfl rfl) h)

theorem Ev.steady_dropField {n : Nat} (h : d.Steady q e.dev) : d.Steady q (e.dropField l n).dev :=
  Ev.steady_openEpisode (.of_beside Ev.beside_stopOnDrop (Ev.steady_modOp (congrArg List.length Controller.drop_jobs) h))

theorem Device.Steady.takeSlot {n : Nat} {p : Parity} {b : Bool} (h : d.Steady q d') :
    d.Steady q (d'.takeSlot l i n p b) := by
  unfold Device.takeSlot
  exact .modLane ⟨id, id⟩ (.of_lanes (d' := d') rfl rfl h)

theorem Ev.steady_intake {n : Nat} {p : Parity} {b : Bool} (h : d.Steady q e.dev) :
    d.Steady q (e.intake l n p b).dev := by
  unfold Ev.intake
  split
  · exact Device.Steady.takeSlot h
  · exact Ev.steady_dropField h

theorem Ev.steady_reenterLane {x : List SlotId} (h : d.Steady q e.dev) : d.Steady q (e.reenterLane l x).dev := by
  unfold Ev.reenterLane
  have h1 : d.Steady q (((e.modLane l fun u => { u with window := [], overrun := false }).modDev fun d =>
      d.giveBack (e.dev.lane l).window x).enableLane l 1).dev :=
    Ev.steady_enableLane (Ev.steady_giveBack (Ev.steady_modLane ⟨fun hb => ⟨Nat.zero_le _, hb.2⟩, id⟩ h))
  dsimp only
  split
  · exact h1.of_beside (Ev.beside_lockLoss _ _)
  · exact h1

/-- The new field's sequence has to lie in the counter's width where the lane started within its bounds. -/
theorem Ev.steady_openNewField {n : Nat} {p : Parity} {b : Bool} (hn : (d.lane l).boundsOk → n ≤ 4294967295)
    (h : d.Steady q e.dev) : d.Steady q (e.openNewField l n p b).dev := by
  have h1 : d.Steady q (e.modIngest l fun g =>
      { g with sequence := n, openField := some (OpenField.start n p b), timer := true }).dev := by
    refine ⟨fun k => ?_, h.dram⟩
    rw [Ev.modIngest, Ev.modLane_dev, Device.lane_modLane]
    split
    · subst k
      refine ⟨fun hb => ?_, (h.figures l).2⟩
      have hb' := (h.figures l).1 hb
      exact ⟨hb'.1, hb'.2.1, hn hb, hb'.2.2.2⟩
    · exact h.figures k
  unfold Ev.openNewField
  dsimp only
  split
  · exact Ev.steady_intake (h1.of_beside Ev.beside_reportFieldStart)
  · exact h1.of_beside Ev.beside_reportFieldStart

end
end Sys2Proof.Machine

namespace Sys2Proof.Machine
section
variable {d d' : Device} {e : Ev} {l : Lane} {i : SlotId} {q : Prop} {s t : State}

theorem Ev.steady_fieldStartEnabled {p : Parity} {b : Bool} (hq : ¬q) (h : d.Steady q e.dev) :
    d.Steady q (e.fieldStartEnabled l p b).dev := by
  unfold Ev.fieldStartEnabled
  extract_lets e0 top seq c e2 e1
  have h0 : d.Steady q e0.dev := Ev.steady_finishChain hq h
  have hc : d.Steady q c.ev.dev := Ev.steady_closeOpenField hq h0
  refine Ev.steady_openNewField (fun hb => ?_) ?_
  · have hs := ((h0.figures l).1 hb).2.2.1
    by_cases ht : (e0.dev.lane l).ingest.sequence = 4294967295
    · simp [seq, top, Config.max32, ht]
    · simp only [seq, top, Config.max32, ht, decide_false, Bool.false_eq_true, if_false]; omega
  · subst e1
    split
    · exact Ev.steady_reenterLane hc
    · have h2 : d.Steady q e2.dev := Ev.steady_giveBack hc
      split
      · exact Ev.steady_setLaneState h2
      · exact h2

theorem Ev.steady_fieldStart {p : Parity} {b : Bool} (hq : ¬q) (h : d.Steady q e.dev) :
    d.Steady q (e.fieldStart l p b).dev := by
  unfold Ev.fieldStart
  split
  · exact h.of_beside (Ev.beside_watch _)
  · exact Ev.steady_fieldStartEnabled hq h

/-- Work on the open field writes to the stacked DRAM, unless it leaves the DRAM it is given. -/
theorem Ev.steady_withOpenField {f : Standard → Dram → OpenField → OpenField × Dram}
    (hf : q → ∀ x m o, (f x m o).2 = m) (h : d.Steady q e.dev) : d.Steady q (e.withOpenField l f).dev := by
  unfold Ev.withOpenField
  dsimp only
  split
  · exact h
  · refine Ev.steady_modIngest (fun hb => hb.2.2.1) (fun hb => hb.2.2.2.1) (fun hb => hb.2.2.2.2) ?_
    exact ⟨h.figures.trans (.of_lanes rfl), fun hq => (hf hq _ _ _).trans (h.dram hq)⟩

theorem Ev.steady_lineStart (hq : ¬q) (h : d.Steady q e.dev) : d.Steady q (e.lineStart l).dev := by
  unfold Ev.lineStart
  split
  · exact h
  · exact Ev.steady_withOpenField (fun hq' => absurd hq' hq) h

theorem Ev.steady_sampleWord {v : Sample} {a b : Bool} (hq : ¬q) (h : d.Steady q e.dev) :
    d.Steady q (e.sampleWord l v a b).dev := by
  unfold Ev.sampleWord
  split
  · exact h
  split
  · exact h.of_beside (Ev.beside_watch _)
  · exact Ev.steady_withOpenField (fun hq' => absurd hq' hq) h

theorem Ev.steady_labelWord {w : LabelWord} (h : d.Steady q e.dev) : d.Steady q (e.labelWord l w).dev := by
  unfold Ev.labelWord
  split
  · exact h
  · exact Ev.steady_withOpenField (fun _ _ _ _ => rfl) h

theorem Ev.steady_timerExpiry (h : d.Steady q e.dev) : d.Steady q (e.timerExpiry l).dev := by
  unfold Ev.timerExpiry
  dsimp only
  split
  · unfold Ev.loseSignal
    have h3 : d.Steady q (((e.modDev fun d => d.giveBack [] (e.dev.lane l).openSlot).modIngest l fun g =>
        { g with openField := none, prevParity := none, timer := false }).setLaneState l .noSignal
          (e.dev.lane l).ingest.sequence |>.modOp l fun op => op.observe .noSignal).dev :=
      Ev.steady_modOp (by simp) (Ev.steady_setLaneState (Ev.steady_modIngest (fun hb => hb.2.2.1)
        (fun hb => hb.2.2.2.1) (fun hb => hb.2.2.2.2) (Ev.steady_giveBack h)))
    dsimp only
    split
    · exact h3.of_beside (Ev.beside_lockLoss _ _)
    · exact h3
  · exact h

theorem Device.keepsFigures_setChannel {f : LaneUnit → Channel}
    (hl : d'.lanes = (d.modLane l fun u => { u with channel := f u }).lanes) : d.KeepsFigures d' :=
  .trans (.modLane (.of_eq rfl rfl rfl rfl)) (.of_lanes hl)

/-- Cutting a running job makes its frame buffer undefined. -/
theorem Device.Steady.cutRunning (hq : ¬q) (h : d.Steady q d') : d.Steady q (d'.cutRunning l) := by
  refine ⟨h.figures.trans ?_, fun hq' => absurd hq' hq⟩
  unfold Device.cutRunning
  split
  · refine .trans ?_ (.of_lanes rfl)
    unfold Device.returnBuffer
    split
    · exact Device.keepsFigures_setChannel (f := fun u => u.channel.setBuffer _ .free) rfl
    · exact .refl _
  · exact .refl _

theorem Device.Steady.discardJobs {x y : List SlotId} (hq : ¬q) (h : d.Steady q d') :
    d.Steady q (d'.discardJobs l x y) := by
  unfold Device.discardJobs
  exact .giveBack (.modLane (.of_op fun _ => Nat.zero_le _) (.cutRunning hq h))

theorem Ev.steady_releaseLane (hq : ¬q) (h : d.Steady q e.dev) : d.Steady q (e.releaseLane l).dev := by
  unfold Ev.releaseLane
  extract_lets e1 u e2 e3
  have h2 : d.Steady q e2.dev := Device.Steady.discardJobs hq (h.of_beside Ev.beside_abort)
  have h3 : d.Steady q e3.dev := Ev.steady_resetLaneBlocks (Ev.steady_modLane
    ⟨fun hb => ⟨Nat.zero_le _, hb.2.1, Nat.zero_le _, Nat.zero_le _, Nat.zero_le _⟩, id⟩ h2)
  split
  · exact h3
  · exact Ev.steady_note h3

/-! ## The Render Engine and the Output Channels -/

theorem Ev.steady_modChannel {f : Channel → Channel} (h : d.Steady q e.dev) : d.Steady q (e.modChannel l f).dev :=
  Ev.steady_modLane (.of_eq rfl rfl rfl rfl) h

theorem Device.Steady.grantTo (h : d.Steady q d') : d.Steady q (d'.grantTo l) := by
  unfold Device.grantTo
  split
  · rename_i j rest b hj hb
    refine .of_lanes (d' := d'.modLane l fun u =>
      { u with op := { u.op with jobs := rest }, channel := u.channel.setBuffer b .lent }) rfl rfl
      (.modLane ⟨fun hb => ⟨hb.1, ?_, hb.2.2⟩, id⟩ h)
    have hlen := hb.2.1
    rw [hj, List.length_cons] at hlen
    exact Nat.le_of_succ_le hlen
  · exact h

theorem Ev.steady_grant (h : d.Steady q e.dev) : d.Steady q e.grant.dev := by
  unfold Ev.grant
  split
  · exact h.grantTo
  · exact h

theorem Ev.steady_jobCompletion (hq : ¬q) (h : d.Steady q e.dev) : d.Steady q e.jobCompletion.dev := by
  refine ⟨h.figures.trans ?_, fun hq' => absurd hq' hq⟩
  unfold Ev.jobCompletion
  split
  · split
    · rename_i j _ _ b _
      exact Device.keepsFigures_setChannel
        (f := fun u => { u.channel.setBuffer b .queued with queue := u.channel.queue ++ [j.frame b] })
        (Device.giveBack_lanes _ _ _)
    · exact .refl _
  · exact .refl _

theorem Ev.steady_sendCompletion (h : d.Steady q e.dev) : d.Steady q (e.sendCompletion l).dev := by
  unfold Ev.sendCompletion
  split
  · refine .of_beside Ev.beside_settle (Ev.steady_modOp ?_ (Ev.steady_modChannel h))
    unfold Controller.frameSent
    split
    · split <;> simp
    · rfl
  · exact h

end
end Sys2Proof.Machine

namespace Sys2Proof.Machine
section
variable {d d' : Device} {e : Ev} {l : Lane} {i : SlotId} {q : Prop} {s t : State} {r : Request}

/-! ## Requests -/

theorem State.steady_event {f : Ev → Ev} (h : s.dev.Steady q (f (Ev.start s.dev)).dev) :
    s.dev.Steady q (s.event f).dev := h.of_beside (Ev.beside_commit _ _)

theorem State.steady_answer {a : Answer} (h : s.dev.Steady q a.ev.dev) : s.dev.Steady q (s.answer r a).dev :=
  h.of_beside (Ev.beside_commit _ _)

theorem State.steady_request {kind : Nat} {f : Device → Request → Answer}
    (h : ∀ r, s.dev.Steady q (f s.dev r).ev.dev) : s.dev.Steady q (s.request kind f).dev := by
  unfold State.request
  split
  · split
    · refine State.steady_answer ?_
      split
      · exact h _
      · exact .refl _
    · exact .refl _
  · exact .refl _

theorem Answer.steady_refuse (d : Device) (c : RefusalCode) : d.Steady q (refuse d c).ev.dev := .refl d

theorem steady_configureRequest : d.Steady q (configureRequest d r).ev.dev := by
  unfold configureRequest
  split
  · exact Answer.steady_refuse _ _
  split
  · exact Answer.steady_refuse _ _
  · extract_lets u items set e
    have he : d.Steady q e.dev := Ev.steady_modLane (.of_eq rfl rfl rfl rfl) (.refl d)
    split
    · exact Answer.steady_refuse _ _
    split
    · exact Answer.steady_refuse _ _
    split
    · exact Answer.steady_refuse _ _
    split
    · exact Answer.steady_refuse _ _
    · dsimp only
      split
      · exact he.of_beside (Ev.beside_resetTracker _)
      · exact he

theorem steady_partitionRequest : d.Steady q (partitionRequest d r).ev.dev := by
  have hfold (ls : List Lane) {d' : Device} (h : d.Steady q d') :
      d.Steady q (ls.foldl (Device.setQuota r.body) d') := by
    induction ls generalizing d' with
    | nil => exact h
    | cons l ls ih => exact ih (.modLane (.of_eq rfl rfl rfl rfl) h)
  unfold partitionRequest
  split
  · exact Answer.steady_refuse _ _
  split
  · exact Answer.steady_refuse _ _
  split
  · exact Answer.steady_refuse _ _
  · exact hfold _ (.refl d)

theorem steady_inspectRequest : d.Steady q (inspectRequest d r).ev.dev := by
  unfold inspectRequest
  dsimp only
  repeat' split
  all_goals exact .refl d

/-- A change of the Request Handler's own tables touches no lane and no container. -/
theorem Device.Steady.setHandler (x : Handler) : d.Steady q { d with handler := x } :=
  .of_lanes (d' := d) rfl rfl (.refl d)

theorem steady_loadProfileRequest : d.Steady q (loadProfileRequest d r).ev.dev := by
  unfold loadProfileRequest
  dsimp only
  repeat' split
  all_goals exact .setHandler _

theorem steady_setNoticesRequest : d.Steady q (setNoticesRequest d r).ev.dev := by
  unfold setNoticesRequest
  split <;> exact .setHandler _

theorem steady_setAccessRequest : d.Steady q (setAccessRequest d r).ev.dev := by
  unfold setAccessRequest
  dsimp only
  repeat' split
  all_goals exact .setHandler _

theorem steady_loadCoefficientsRequest : d.Steady q (loadCoefficientsRequest d r).ev.dev := by
  unfold loadCoefficientsRequest
  dsimp only
  repeat' split
  all_goals exact .setHandler _

theorem steady_coefficientDataRequest : d.Steady q (coefficientDataRequest d r).ev.dev := by
  unfold coefficientDataRequest
  dsimp only
  repeat' split
  all_goals exact .setHandler _

theorem steady_operationRequest {f : Lane → Answer} (h : ∀ l, d.Steady q (f l).ev.dev) :
    d.Steady q (operationRequest d r f).ev.dev := by
  unfold operationRequest
  split
  · exact Answer.steady_refuse _ _
  split
  · exact Answer.steady_refuse _ _
  · exact h _

theorem steady_lockedLaneRequest {f : Lane → Answer} (h : ∀ l, d.Steady q (f l).ev.dev) :
    d.Steady q (lockedLaneRequest d r f).ev.dev := by
  refine steady_operationRequest fun l => ?_
  split
  · exact Answer.steady_refuse _ _
  · exact h l
  · exact Answer.steady_refuse _ _

/-- An accepted operation request changes its lane's controller, and not the pending jobs. -/
theorem steady_accept {g : Controller → Controller} (hg : ∀ op, (g op).jobs = op.jobs) :
    d.Steady q ((Ev.start d).modOp l g).dev := Ev.steady_modOp (congrArg List.length (hg _)) (.refl d)

theorem steady_acquireRequest : d.Steady q (acquireRequest d r).ev.dev := by
  refine steady_operationRequest fun l => ?_
  split
  · exact Answer.steady_refuse _ _
  · extract_lets st e e1
    split
    · exact .refl d
    · have he : d.Steady q e.dev := steady_accept fun _ => rfl
      show d.Steady q e1.dev
      subst e1
      split
      · exact Ev.steady_enableLane he
      · exact he

theorem steady_cueRequest : d.Steady q (cueRequest d r).ev.dev := by
  refine steady_lockedLaneRequest fun l => ?_
  split
  · exact Answer.steady_refuse _ _
  · exact steady_accept fun _ => rfl

theorem steady_transferRequest : d.Steady q (transferRequest d r).ev.dev := by
  refine steady_lockedLaneRequest fun l => ?_
  split
  · exact Answer.steady_refuse _ _
  · dsimp only
    split
    · exact Answer.steady_refuse _ _
    · exact steady_accept fun _ => rfl

theorem steady_scanRequest : d.Steady q (scanRequest d r).ev.dev := by
  refine steady_lockedLaneRequest fun l => ?_
  split
  · exact Answer.steady_refuse _ _
  · exact steady_accept fun _ => rfl

theorem steady_probeRequest : d.Steady q (probeRequest d r).ev.dev :=
  steady_lockedLaneRequest fun _ => steady_accept fun _ => rfl

theorem steady_lineTestRequest : d.Steady q (lineTestRequest d r).ev.dev := by
  refine steady_operationRequest fun l => ?_
  split
  · exact Answer.steady_refuse _ _
  · exact steady_accept fun _ => rfl

theorem steady_amendRequest : d.Steady q (amendRequest d r).ev.dev := by
  unfold amendRequest
  split
  · dsimp only
    split
    · split
      · exact Answer.steady_refuse _ _
      split
      · exact Answer.steady_refuse _ _
      split
      · exact Answer.steady_refuse _ _
      · exact Device.Steady.of_beside (Ev.beside_amend _ _ _) (.refl d)
    · exact Answer.steady_refuse _ _
  · exact Answer.steady_refuse _ _

theorem steady_releaseRequest (hq : ¬q) : d.Steady q (releaseRequest d r).ev.dev := by
  unfold releaseRequest
  split
  · exact Answer.steady_refuse _ _
  · exact Ev.steady_releaseLane hq (.refl d)

theorem steady_stopRequest (hq : ¬q) : d.Steady q (stopRequest d r).ev.dev := by
  unfold stopRequest
  split
  · exact Answer.steady_refuse _ _
  split
  · exact Answer.steady_refuse _ _
  · exact Device.Steady.discardJobs hq (Device.Steady.of_beside Ev.beside_abort (.refl d))

/-! ## Resets and the self test -/

theorem LaneUnit.keepsFigures_afterReset (u : LaneUnit) : u.KeepsFigures u.afterReset :=
  ⟨fun _ => ⟨Nat.zero_le _, Nat.zero_le _, Nat.zero_le _, Nat.zero_le _, Nat.zero_le _⟩,
    fun _ => LabelDecoder.reset_ok⟩

theorem LaneUnit.keepsFigures_afterPowerOn (u : LaneUnit) : u.KeepsFigures u.afterPowerOn :=
  u.keepsFigures_afterReset

theorem Device.keepsFigures_map {f : LaneUnit → LaneUnit} (hf : ∀ u : LaneUnit, u.KeepsFigures (f u))
    (h : d'.lanes = d.lanes.map f) : d.KeepsFigures d' := fun k => by
  rw [show d'.lane k = f (d.lane k) by simp [Device.lane, h]]
  exact hf _

theorem State.keepsFigures_powerOn : s.dev.KeepsFigures s.powerOn.dev :=
  Device.keepsFigures_map LaneUnit.keepsFigures_afterPowerOn rfl

theorem State.keepsFigures_resetRequest : s.dev.KeepsFigures s.resetRequest.dev := by
  unfold State.resetRequest
  split
  · split
    · split
      · exact Device.keepsFigures_map LaneUnit.keepsFigures_afterReset rfl
      · exact (State.steady_answer (q := True) (Answer.steady_refuse _ _)).figures
    · exact .refl _
  · exact .refl _

theorem State.keepsFigures_selfTest : s.dev.KeepsFigures s.selfTest.dev := by
  unfold State.selfTest
  split
  · split
    · split
      · exact (State.steady_answer (q := True) (Answer.steady_refuse _ _)).figures
      · exact .of_lanes rfl
    · exact .refl _
  · exact .refl _

theorem State.keepsFigures_endSelfTest (u : Option Nat) : s.dev.KeepsFigures (s.endSelfTest u).dev := by
  unfold State.endSelfTest
  split
  · exact .of_lanes rfl
  · exact .refl _

theorem State.steady_unknownKind : s.dev.Steady q s.unknownKind.dev := by
  unfold State.unknownKind
  split
  · split
    · exact .refl _
    · exact State.steady_answer (Answer.steady_refuse _ _)
  · exact .refl _

/-! ## The link -/

theorem beside_releaseHeld (k : Link) (m : Message) : (releaseHeld d k m).1.beside = d.beside := by
  unfold releaseHeld
  split
  · rfl
  · split
    · rfl
    · exact Device.beside_modLane rfl rfl

/-- Ends of byte times touch no more of the part than which completions are held. -/
theorem State.beside_byteTimeEnd (b : Byte) : (s.byteTimeEnd b).dev.beside = s.dev.beside := by
  unfold State.byteTimeEnd
  split
  · show (endOutByte s.dev (s.link.startDue.receive b)).1.beside = _
    unfold endOutByte
    split
    · split
      · rfl
      · unfold recordLeaves
        dsimp only
        split
        · rfl
        · exact beside_releaseHeld _ _
    · rfl
  · rfl

theorem State.steady_byteTimeEnd {b : Byte} : s.dev.Steady q (s.byteTimeEnd b).dev :=
  .of_beside (s.beside_byteTimeEnd b) (.refl _)

/-! ## Every command -/

/-- Every command keeps the figures of the lanes, and only the writers of the stacked DRAM change it. -/
theorem exec_steady {c : Instr} (h : exec c s = .next t) : s.dev.Steady (mayTouchDram c = false) t.dev := by
  have writes {x : Instr} (hx : mayTouchDram x = true) : ¬mayTouchDram x = false := by simp [hx]
  cases c with
  | powerOnReset => cases h; exact ⟨State.keepsFigures_powerOn, fun hq => nomatch hq⟩
  | reset => cases h; exact ⟨State.keepsFigures_resetRequest, fun hq => nomatch hq⟩
  | selfTest => cases h; exact ⟨State.keepsFigures_selfTest, fun hq => nomatch hq⟩
  | selfTestEnd u =>
    simp only [exec, execSelfTestEnd] at h
    split at h
    · cases h; exact ⟨State.keepsFigures_endSelfTest u, fun hq => nomatch hq⟩
    · cases h
  | fieldStart l p b => cases h; exact State.steady_event (Ev.steady_fieldStart (writes rfl) (.refl _))
  | lineStart l => cases h; exact State.steady_event (Ev.steady_lineStart (writes rfl) (.refl _))
  | sampleWord l v a b => cases h; exact State.steady_event (Ev.steady_sampleWord (writes rfl) (.refl _))
  | labelWord l w => cases h; exact State.steady_event (Ev.steady_labelWord (.refl _))
  | noSignalTimerExpiry l => cases h; exact State.steady_event (Ev.steady_timerExpiry (.refl _))
  | dropoutRepair l =>
    cases h; exact State.steady_event (Ev.steady_chainStage (fun hq => nomatch hq) (.refl _))
  | labelJudgement l => cases h; exact State.steady_event (Ev.steady_chainStage (fun _ hx => nomatch hx) (.refl _))
  | cadenceMonitorEvent l =>
    cases h; exact State.steady_event (Ev.steady_chainStage (fun _ hx => nomatch hx) (.refl _))
  | fieldTaken l => cases h; exact State.steady_event (Ev.steady_chainStage (fun _ hx => nomatch hx) (.refl _))
  | waitTimerExpiry l => cases h; exact State.steady_event (.of_beside Ev.beside_waitExpiry (.refl _))
  | testWindowEnd l x => cases h; exact State.steady_event (.of_beside (Ev.beside_windowEnd x) (.refl _))
  | grant => cases h; exact State.steady_event (Ev.steady_grant (.refl _))
  | jobCompletion => cases h; exact State.steady_event (Ev.steady_jobCompletion (writes rfl) (.refl _))
  | sendStart l => cases h; exact State.steady_event (Ev.steady_modChannel (.refl _))
  | outputLineEnd l => cases h; exact State.steady_event (Ev.steady_modChannel (.refl _))
  | recorderReadyRise l => cases h; exact State.steady_event (Ev.steady_modChannel (.refl _))
  | recorderReadyFall l => cases h; exact State.steady_event (Ev.steady_modChannel (.refl _))
  | sendCompletion l => cases h; exact State.steady_event (Ev.steady_sendCompletion (.refl _))
  | strapFall => cases h; exact .of_lanes (d' := s.dev) rfl rfl (.refl _)
  | strapRise => cases h; exact .of_lanes (d' := s.dev) rfl rfl (.refl _)
  | selectRise => cases h; exact .refl _
  | selectFall => cases h; exact .refl _
  | recordStartOut => cases h; exact .refl _
  | frameReceived b =>
    simp only [exec, execFrameReceived] at h
    split at h <;> cases h
    · exact State.steady_byteTimeEnd
    · exact .refl _
  | lengthFormatError b =>
    simp only [exec, execLengthFormatError] at h
    split at h <;> cases h
    · exact State.steady_byteTimeEnd
    · exact .refl _
  | recordSent b =>
    simp only [exec, execRecordSent] at h
    split at h <;> cases h
    · exact State.steady_byteTimeEnd
    · exact .refl _
  | byteTimeEnd b => cases h; exact State.steady_byteTimeEnd
  | status => cases h; exact State.steady_request fun _ => .refl _
  | capabilities => cases h; exact State.steady_request fun _ => .refl _
  | inspectField => cases h; exact State.steady_request fun _ => steady_inspectRequest
  | loadProfile => cases h; exact State.steady_request fun _ => steady_loadProfileRequest
  | setNotices => cases h; exact State.steady_request fun _ => steady_setNoticesRequest
  | setAccess => cases h; exact State.steady_request fun _ => steady_setAccessRequest
  | loadCoefficients => cases h; exact State.steady_request fun _ => steady_loadCoefficientsRequest
  | coefficientData => cases h; exact State.steady_request fun _ => steady_coefficientDataRequest
  | configureLane => cases h; exact State.steady_request fun _ => steady_configureRequest
  | partition => cases h; exact State.steady_request fun _ => steady_partitionRequest
  | acquire => cases h; exact State.steady_request fun _ => steady_acquireRequest
  | release => cases h; exact State.steady_request fun _ => steady_releaseRequest (writes rfl)
  | cue => cases h; exact State.steady_request fun _ => steady_cueRequest
  | transfer => cases h; exact State.steady_request fun _ => steady_transferRequest
  | amend => cases h; exact State.steady_request fun _ => steady_amendRequest
  | scan => cases h; exact State.steady_request fun _ => steady_scanRequest
  | probe => cases h; exact State.steady_request fun _ => steady_probeRequest
  | lineTest => cases h; exact State.steady_request fun _ => steady_lineTestRequest
  | stop => cases h; exact State.steady_request fun _ => steady_stopRequest (writes rfl)
  | unknownKind => cases h; exact State.steady_unknownKind

theorem step_keepsFigures (h : step s = .next t) : s.dev.KeepsFigures t.dev := by
  unfold step at h
  split at h
  · cases h; exact .refl _
  · exact (exec_steady h).figures

/-! ## The obligations -/

/-- Settles O55: every step keeps each lane's bounds and its Label Decoder's law. -/
theorem everyStepKeepsLaneFigures : Obligations.EveryStepKeepsLaneFigures :=
  ⟨fun _ _ hs h l => (step_keepsFigures h l).1 (hs l), fun _ _ hs h l => (step_keepsFigures h l).2 (hs l)⟩

theorem event_outside {f : Ev → Ev} (h : ∀ e, (f e).outside l = e.outside l) :
    (s.event f).dev.outside l = s.dev.outside l := Ev.outside_commit (h _) _

/-- An event of one lane leaves the rest of the part alone. -/
theorem exec_outside {c : Instr} (hc : eventLane c = some l) (h : exec c s = .next t) :
    t.dev.outside l = s.dev.outside l ∧ t.pending = s.pending := by
  cases c <;> cases hc <;> cases h <;> refine ⟨event_outside fun e => ?_, rfl⟩ <;> simp

theorem Device.sameOutside_of_outside (h : d'.outside l = d.outside l) :
    d.sameOutside d' l ∧ d'.handler = d.handler ∧ d'.strap = d.strap :=
  ⟨fun k hk => congrFun (congrArg (fun x => x.2.2) h) ⟨k, hk⟩, congrArg (fun x => x.1) h,
    congrArg (fun x => x.2.1) h⟩

/-- Settles O60: an event's lane is the only one it changes, and the writers are the only ones that change the DRAM. -/
theorem lanesAreIndependent : Obligations.LanesAreIndependent := by
  refine ⟨fun c l s t hc h => ?_, fun c s t hc h => (exec_steady h).dram hc⟩
  obtain ⟨ho, hp⟩ := exec_outside hc h
  obtain ⟨hl, hh, hs⟩ := Device.sameOutside_of_outside ho
  exact ⟨hl, hh, hs, hp⟩

end
end Sys2Proof.Machine

/-! SUPPORT. The decoder's signals that issue no notice: lines, words and labels, and the watch of a LINE TEST on an OFF
lane (R1, R7, R158). -/
namespace Sys2Proof.Machine
section
variable {d : Device} {e : Ev} {l : Lane} {s : State} {f : Ev → Ev}

/-! ## Events without notices -/

/-- An event that issues no notice leaves the part as its work does, and the link alone. -/
theorem State.event_of_start (h : f (Ev.start s.dev) = Ev.start d) : s.event f = { s with dev := d } := by
  rw [State.event, h, Ev.commit_start]

/-- An event that does nothing. -/
theorem State.event_of_idle (h : f (Ev.start s.dev) = Ev.start s.dev) : s.event f = s := State.event_of_start h

theorem Ev.watch_start_of_lineTesting {w : LineWatch} {g : LineWatch → LineWatch}
    (h : (d.lane l).op.state = .lineTesting w) :
    (Ev.start d).watch l g =
      Ev.start (d.modLane l fun u => { u with op := { u.op with state := .lineTesting (g w) } }) := by
  show Ev.start (d.modLane l _) = _
  exact congrArg Ev.start (Device.modLane_congr (by simp only [h]))

theorem Ev.watch_of_not_lineTesting {g : LineWatch → LineWatch} (h : ∀ w, (e.dev.lane l).op.state ≠ .lineTesting w) :
    e.watch l g = e := by
  have hd : e.dev.modLane l _ = e.dev := Device.modLane_self (d := e.dev) (l := l)
    (f := fun u => { u with op := match u.op.state with
      | .lineTesting w => { u.op with state := .lineTesting (g w) }
      | _ => u.op }) (by
        split
        · exact absurd ‹_› (h _)
        · rfl)
  exact congrArg (fun x => (⟨x, e.notes⟩ : Ev)) hd

/-- Settles O6: an OFF lane does no more with its decoder's signals than note them for a LINE TEST. -/
theorem offLaneIgnoresDecoder : Obligations.OffLaneIgnoresDecoder := by
  intro s l hoff
  have hoff' : ((Ev.start s.dev).dev.lane l).ingest.state = .off := hoff
  have start {p h} : (Ev.start s.dev).fieldStart l p h = (Ev.start s.dev).watch l fun w => w.fieldStart p :=
    if_pos hoff'
  have word {v d} :
      (Ev.start s.dev).sampleWord l v true d = (Ev.start s.dev).watch l fun w => { w with sampleSeen := true } :=
    if_pos hoff'
  refine ⟨?_, fun w => ?_, fun v d => ?_, fun hw => ⟨fun p h => ?_, fun v d => ?_⟩,
    fun w hw => ⟨fun p h => ?_, fun v d => ?_⟩⟩ <;> refine congrArg Host.Outcome.next ?_
  · exact State.event_of_idle (if_pos hoff')
  · exact State.event_of_idle (if_pos hoff')
  · exact State.event_of_idle rfl
  · exact State.event_of_idle (start.trans (Ev.watch_of_not_lineTesting hw))
  · exact State.event_of_idle (word.trans (Ev.watch_of_not_lineTesting hw))
  · exact State.event_of_start (start.trans (Ev.watch_start_of_lineTesting hw))
  · exact State.event_of_start (word.trans (Ev.watch_start_of_lineTesting hw))

/-! ## Work on the open field -/

/-- The part after work on lane `l`'s open field that leaves `o` of it, and `m` of the stacked DRAM. -/
def Device.withField (d : Device) (l : Lane) (m : Dram) (o : OpenField) : Device :=
  (d.setDram m).modLane l fun u => { u with ingest := { u.ingest with openField := some o } }

theorem Ev.withOpenField_none {g : Standard → Dram → OpenField → OpenField × Dram}
    (h : (e.dev.lane l).ingest.openField = none) : e.withOpenField l g = e := by
  simp [Ev.withOpenField, h]

theorem Ev.withOpenField_start {g : Standard → Dram → OpenField → OpenField × Dram} {f : OpenField}
    (h : (d.lane l).ingest.openField = some f) :
    (Ev.start d).withOpenField l g = Ev.start (d.withField l (g (d.lane l).settings.standard d.dram f).2
      (g (d.lane l).settings.standard d.dram f).1) := by
  simp only [Ev.withOpenField, Ev.start_dev, h]
  rfl

variable {m : Dram} {o : OpenField}

@[simp] theorem Device.withField_lane :
    (d.withField l m o).lane l = { d.lane l with ingest := { (d.lane l).ingest with openField := some o } } := by
  simp [Device.withField]

theorem Device.withField_sameOutside : d.sameOutside (d.withField l m o) l := fun k hk => by
  rw [Device.withField, Device.lane_modLane_of_ne _ _ hk, Device.setDram_lane]

/-- Where no container is written. -/
theorem Device.withField_same_dram : d.withField l d.dram o =
    d.modLane l fun u => { u with ingest := { u.ingest with openField := some o } } := rfl

theorem Device.withField_self (h : (d.lane l).ingest.openField = some o) : d.withField l d.dram o = d := by
  rw [Device.withField_same_dram]
  exact Device.modLane_self (by simp only [← h])

/-! ## Words and labels (R1, R7) -/

variable {f : OpenField}

theorem exec_sampleWord {v : Sample} {b : Bool} (hon : (s.dev.lane l).ingest.state ≠ .off)
    (hf : (s.dev.lane l).ingest.openField = some f) :
    exec (.sampleWord l v true b) s = .next { s with
      dev := (s.dev.withField l (takeWord (s.dev.lane l).settings.standard s.dev.dram f v b).2
        (takeWord (s.dev.lane l).settings.standard s.dev.dram f v b).1) } :=
  congrArg Host.Outcome.next (State.event_of_start ((if_neg hon).trans (Ev.withOpenField_start hf)))

theorem exec_labelWord {w : LabelWord} (hon : (s.dev.lane l).ingest.state ≠ .off)
    (hf : (s.dev.lane l).ingest.openField = some f) :
    exec (.labelWord l w) s = .next { s with dev := s.dev.withField l s.dev.dram { f with label := w } } :=
  congrArg Host.Outcome.next (State.event_of_start ((if_neg hon).trans (Ev.withOpenField_start hf)))

variable {std : Standard} {v : Sample} {b : Bool} {i : SlotId}

theorem takeWord_of_no_line (h : f.lineOpen = false) : takeWord std m f v b = (f, m) := by simp [takeWord, h]

theorem takeWord_of_excess (h : f.lineOpen = true) (hx : std.lines < f.lines ∨ 1440 ≤ f.words) :
    takeWord std m f v b = ({ f with words := min 1440 (f.words + 1), malformed := true }, m) := by
  simp [takeWord, h, hx]

theorem takeWord_of_no_slot (h : f.lineOpen = true) (hl : f.lines ≤ std.lines) (hw : f.words < 1440)
    (hs : f.slot = none) : takeWord std m f v b = ({ f with words := f.words + 1 }, m) := by
  simp [takeWord, h, hs, Nat.not_lt.2 hl, Nat.not_le.2 hw]

theorem takeWord_of_slot (h : f.lineOpen = true) (hl : f.lines ≤ std.lines) (hw : f.words < 1440)
    (hs : f.slot = some i) :
    takeWord std m f v b =
      ({ f with words := f.words + 1, flagged := f.flagged ++ (if b then [f.words] else []) },
        m.write (fieldAddr i (f.lines - 1) f.words) v) := by
  simp only [takeWord, h, hs, Nat.not_lt.2 hl, Nat.not_le.2 hw]
  cases b <;> simp

/-- Settles O12: a case for each way in which a word or a label meets the open field. -/
theorem wordsAndLabelsAreTaken : Obligations.WordsAndLabelsAreTaken := by
  intro s l hon
  refine ⟨fun v d => congrArg Host.Outcome.next (State.event_of_idle rfl), fun hn => ⟨fun v d => ?_, fun w => ?_⟩,
    fun f hf => ⟨fun w => ?_, fun ho v d => ?_, fun ho hx v d => ?_, fun ho hl hw hs v d => ?_,
      fun i ho hl hw hs v d => ?_⟩⟩
  · exact congrArg Host.Outcome.next (State.event_of_idle ((if_neg hon).trans (Ev.withOpenField_none hn)))
  · exact congrArg Host.Outcome.next (State.event_of_idle ((if_neg hon).trans (Ev.withOpenField_none hn)))
  · exact exec_labelWord hon hf
  · rw [exec_sampleWord hon hf, takeWord_of_no_line ho, Device.withField_self hf]
  · rw [exec_sampleWord hon hf, takeWord_of_excess ho hx]; rfl
  · rw [exec_sampleWord hon hf, takeWord_of_no_slot ho hl hw hs]; rfl
  · refine ⟨_, exec_sampleWord hon hf, ?_⟩
    rw [takeWord_of_slot ho hl hw hs]
    exact ⟨Device.withField_lane, Dram.read_write_self _ _ _, fun a ha => Dram.read_write_of_ne _ _ ha,
      Device.withField_sameOutside, rfl, rfl, rfl, rfl, rfl, rfl⟩

/-! ## Lines (R7, R11) -/

/-- Black at a word position, as the statements write it. -/
theorem blackWord_eq (w : Nat) : blackWord w = if w % 2 = 1 then 64 else 512 := rfl

/-- A run of black words from position `w` to the end of its line: every one of them reads black. -/
theorem Dram.read_blackRun {line w x : Nat} (h : w ≤ x) (hx : x < 1440) :
    (m.writeRun (fieldAddr i line w) (blackRun w (1440 - w))).read (fieldAddr i line x) = blackWord x := by
  have hlen : x - w < (blackRun w (1440 - w)).length := by simp [blackRun]; omega
  have haddr : fieldAddr i line x = fieldAddr i line w + (x - w) := by unfold fieldAddr; omega
  rw [haddr, Dram.read_writeRun_inside _ _ _ _ hlen]
  simp only [blackRun, List.getElem_map, List.getElem_range']
  congr 1; omega

/-- What lies outside the run reads as before. -/
theorem Dram.read_blackRun_of_ne {line w a : Nat} (h : ∀ x, w ≤ x → x < 1440 → a ≠ fieldAddr i line x) :
    (m.writeRun (fieldAddr i line w) (blackRun w (1440 - w))).read a = m.read a := by
  refine Dram.read_writeRun_outside _ _ ?_
  by_contra hc
  simp only [blackRun, List.length_map, List.length_range', not_or, Nat.not_lt, Nat.not_le] at hc
  refine h (w + (a - fieldAddr i line w)) (by omega) (by omega) ?_
  unfold fieldAddr at hc ⊢; omega

/-- What closing the current line leaves alone of a field, and its malformed mark. -/
theorem closeLine_frame (std : Standard) (m : Dram) (f : OpenField) :
    (closeLine std m f).1 = { f with
      lineOpen := false, flagged := if f.lineOpen then [] else f.flagged
      malformed := f.malformed || (f.lineOpen && decide (f.words < 1440)), spans := (closeLine std m f).1.spans } := by
  obtain ⟨q, p, h, lab, lines, lineOpen, words, fl, mal, slot, spans⟩ := f
  cases lineOpen
  · simp [closeLine]
  · cases slot
    · simp [closeLine]
    · by_cases h : lines - 1 < std.lines <;> simp [closeLine, h]

@[simp] theorem closeLine_sequence : (closeLine std m f).1.sequence = f.sequence := by rw [closeLine_frame]
@[simp] theorem closeLine_parity : (closeLine std m f).1.parity = f.parity := by rw [closeLine_frame]
@[simp] theorem closeLine_held : (closeLine std m f).1.held = f.held := by rw [closeLine_frame]
@[simp] theorem closeLine_label : (closeLine std m f).1.label = f.label := by rw [closeLine_frame]
@[simp] theorem closeLine_slot : (closeLine std m f).1.slot = f.slot := by rw [closeLine_frame]
@[simp] theorem closeLine_lines : (closeLine std m f).1.lines = f.lines := by rw [closeLine_frame]
@[simp] theorem closeLine_malformed :
    (closeLine std m f).1.malformed = (f.malformed || (f.lineOpen && decide (f.words < 1440))) := by
  rw [closeLine_frame]

/-- A line with words in the slot closes: its missing words are written black and its runs join the list. -/
theorem closeLine_of_slot (h : f.lineOpen = true) (hs : f.slot = some i) (hl : f.lines - 1 < std.lines) :
    (closeLine std m f).1.spans =
        buildLine (f.lines - 1) (f.flagged ++ List.range' f.words (1440 - f.words)) f.spans ∧
      (closeLine std m f).2 = m.writeRun (fieldAddr i (f.lines - 1) f.words) (blackRun f.words (1440 - f.words)) := by
  simp [closeLine, h, hs, hl]

/-- No line is open, the field has no slot, or the line is an excess line: nothing is written. -/
theorem closeLine_of_no_slot (h : f.lineOpen = false ∨ f.slot = none ∨ std.lines ≤ f.lines - 1) :
    (closeLine std m f).1.spans = f.spans ∧ (closeLine std m f).2 = m := by
  unfold closeLine
  split
  · exact ⟨rfl, rfl⟩
  · rename_i ho
    dsimp only
    split
    · exact ⟨rfl, rfl⟩
    · rename_i i hs
      rw [if_neg]
      · exact ⟨rfl, rfl⟩
      · rcases h with h | h | h
        · simp [h] at ho
        · simp [h] at hs
        · omega

/-- What the close of a line writes: its missing words, black, in a field with a slot. -/
theorem read_closeLine_black (h : f.lineOpen = true) (hs : f.slot = some i) (hl : f.lines - 1 < std.lines) {w : Nat}
    (hw : f.words ≤ w) (hw' : w < 1440) :
    (closeLine std m f).2.read (fieldAddr i (f.lines - 1) w) = if w % 2 = 1 then 64 else 512 := by
  rw [(closeLine_of_slot h hs hl).2, Dram.read_blackRun hw hw', blackWord_eq]

theorem read_closeLine_of_ne {a : Nat} (h : ∀ i w, f.slot = some i → f.lineOpen = true → f.lines - 1 < std.lines →
    f.words ≤ w → w < 1440 → a ≠ fieldAddr i (f.lines - 1) w) : (closeLine std m f).2.read a = m.read a := by
  by_cases hc : f.lineOpen = false ∨ f.slot = none ∨ std.lines ≤ f.lines - 1
  · rw [(closeLine_of_no_slot hc).2]
  · simp only [not_or, Bool.not_eq_false, Nat.not_le] at hc
    obtain ⟨ho, hs, hl⟩ := hc
    obtain ⟨i, hi⟩ := Option.ne_none_iff_exists'.1 hs
    rw [(closeLine_of_slot ho hi hl).2]
    exact Dram.read_blackRun_of_ne fun x hx hx' => h i x hi ho hl hx hx'

/-- Settles O11: a line-start is the close of the current line and the opening of the next. -/
theorem lineStartOpensNextLine : Obligations.LineStartOpensNextLine := by
  intro s l hon
  refine ⟨fun hn => congrArg Host.Outcome.next (State.event_of_idle ((if_neg hon).trans (Ev.withOpenField_none hn))),
    fun f hf => ⟨_, _, congrArg Host.Outcome.next
      (State.event_of_start ((if_neg hon).trans (Ev.withOpenField_start hf))), Device.withField_lane, ?_⟩⟩
  exact ⟨congrArg (· + 1) closeLine_lines, rfl, rfl, rfl, closeLine_sequence, closeLine_parity, closeLine_held,
    closeLine_label, closeLine_slot, by simp [openLine], fun i hs ho hl => (closeLine_of_slot ho hs hl).1,
    fun h => (closeLine_of_no_slot h).1, fun i w hs ho hl hw hw' => read_closeLine_black ho hs hl hw hw',
    fun a ha => read_closeLine_of_ne ha, Device.withField_sameOutside, rfl, rfl, rfl, rfl, rfl, rfl, rfl⟩

end
end Sys2Proof.Machine

/-! SUPPORT. The part right after power-on: its values, and the laws it meets. -/
namespace Sys2Proof.Machine
section
variable {s : State}

/-! ## Power-on values (R178, R185) -/

/-- A lane at power-on, whatever the level of its recorder's ready line. -/
theorem LaneUnit.atPowerOn_ready (b : Bool) :
    ({ LaneUnit.powerOn with channel := { Channel.powerOn with ready := b } } : LaneUnit).atPowerOn :=
  ⟨rfl, rfl, rfl, rfl, rfl, rfl, rfl, rfl, rfl, rfl, rfl, rfl, rfl, rfl, rfl, rfl, rfl, rfl, rfl, rfl, rfl, rfl⟩

/-- What of the part and of the link takes a power-on value: everything but the levels of the inputs and the DRAM. -/
theorem State.atPowerOn_of_blocks (hl : ∀ l, (s.dev.lane l).atPowerOn) (hs : s.dev.slots = Device.powerOn.slots)
    (hf : s.dev.freeList = Device.powerOn.freeList) (he : s.dev.engine = Device.powerOn.engine)
    (hh : s.dev.handler = Handler.powerOn) (hr : s.link.receiver = .hunt) (hq : s.link.requests = [])
    (ho : s.link.outbound = [⟨.ready, none⟩]) (hi : s.link.inFlight = none) (hg : s.link.flags = LinkFlags.empty) :
    s.atPowerOn := by
  refine ⟨hl, fun i => ?_, hf, he, ?_, ?_, ?_, fun n => ?_, fun n => ?_, hr, hq, ho, hi, hg, ?_⟩
  · rw [Device.slot, hs]; exact Device.slot_powerOn i
  · rw [hh]; rfl
  · rw [hh]; rfl
  · rw [hh]; rfl
  · simp [hh, Handler.powerOn]
  · simp [hh, Handler.powerOn]
  · simp [Link.attention, ho]

@[simp] theorem State.powerOn_lane (s : State) (l : Lane) : s.powerOn.dev.lane l = (s.dev.lane l).afterPowerOn := by
  simp [State.powerOn, Device.lane]

/-- Every container of a DRAM forgotten as a whole reads as the free value of the next generation of its region. -/
theorem Dram.read_forgetAll (m : Dram) (a : Nat) :
    m.forgetAll.read a = Config.undefinedWord (m.gens[dramRegion a] + 1) a := by
  simp [Dram.read, Dram.forgetAll, findCell]

/-- Settles O3. -/
theorem powerOnValues : Obligations.PowerOnValues := by
  refine ⟨State.atPowerOn_of_blocks (fun l => ?_) rfl rfl rfl rfl rfl rfl rfl rfl rfl, rfl, fun s =>
    ⟨s.powerOn, rfl, State.atPowerOn_of_blocks (fun l => ?_) rfl rfl rfl rfl rfl rfl rfl rfl rfl, rfl, rfl, rfl,
      fun l => ?_, fun a => Dram.read_forgetAll _ a⟩⟩
  · rw [State.reset_dev, Device.lane_powerOn]
    exact LaneUnit.atPowerOn_ready false
  · rw [State.powerOn_lane]
    exact LaneUnit.atPowerOn_ready _
  · rw [State.powerOn_lane]
    rfl

/-! ## The laws at reset -/

theorem State.reset_linkLaw : State.reset.linkLaw := by
  refine ⟨⟨by decide, by decide, by decide⟩, by decide, fun f h => (nomatch h), fun h => absurd rfl h, fun l c h => ?_⟩
  rw [State.reset_dev, Device.lane_powerOn] at h
  cases h

theorem State.reset_settingsLaw : State.reset.settingsLaw := by
  refine ⟨fun l => ?_, ?_⟩
  · rw [State.reset_dev, Device.lane_powerOn]
    unfold Settings.ok
    decide
  · simp [Device.quotaSum, LaneUnit.powerOn]

theorem State.reset_monitorLaw : State.reset.monitorLaw := fun l => by
  rw [State.reset_dev, Device.lane_powerOn]
  exact ⟨by decide, by decide, fun _ => ⟨rfl, by decide⟩, fun h => absurd rfl h⟩

theorem Device.powerOn_freeListOk : Device.powerOn.freeListOk := by
  refine ⟨List.nodup_finRange 96, fun i => ?_, fun l i h => ?_, fun l i h => ?_⟩
  · simp [Device.powerOn, initialFreeList, Device.slot, Slot.empty]
  · rw [Device.lane_powerOn] at h; cases h
  · rw [Device.lane_powerOn] at h; cases h

theorem Device.powerOn_buffersOk : Device.powerOn.buffersOk := by
  refine ⟨fun l => ?_, fun j b h => nomatch h⟩
  rw [Device.lane_powerOn]
  exact ⟨⟨List.nodup_nil, fun f h => (nomatch h)⟩, fun j h => nomatch h⟩

/-- No lane and no running job holds a reference. -/
theorem Device.powerOn_referencesOn (i : SlotId) : Device.powerOn.referencesOn i = 0 := by
  have h : Device.powerOn.engine.running = none := rfl
  simp [Device.referencesOn, Engine.referencesOn, LaneUnit.referencesOn, LaneUnit.powerOn, Controller.reset, h]

theorem Device.powerOn_slotOk (i : SlotId) : Device.powerOn.slotOk i := by
  unfold Device.slotOk Device.record
  rw [Device.slot_powerOn]
  refine ⟨fun _ => rfl, fun h => (nomatch h), fun h => (nomatch h), fun _ => Device.powerOn_referencesOn i,
    fun h => absurd rfl h, fun l h => ?_, fun j h => nomatch h⟩
  rw [Device.lane_powerOn] at h
  exact absurd rfl h

theorem Device.powerOn_slotsInUse (l : Lane) : Device.powerOn.slotsInUse l = 0 := by
  simp [Device.slotsInUse, Slot.empty]

theorem Device.powerOn_storeOk : Device.powerOn.storeOk := by
  refine ⟨Device.powerOn_freeListOk, Device.powerOn_slotOk, fun l => ?_⟩
  unfold Device.storeLaneOk
  rw [Device.powerOn_slotsInUse, Device.lane_powerOn]
  refine ⟨fun f i h => (nomatch h), fun i h => ?_, fun j h => (nomatch h), Nat.zero_le _,
    fun _ => ⟨rfl, rfl, rfl, rfl, fun j h => nomatch h⟩, Nat.zero_le _⟩
  rcases h with h | h <;> cases h

/-- Settles O4. -/
theorem resetStateMeetsLaws : Obligations.ResetStateMeetsLaws := by
  refine ⟨State.reset_linkLaw, State.reset_dram_wf, fun l => ?_, State.reset_settingsLaw, State.reset_monitorLaw,
    fun l => ?_, Device.powerOn_freeListOk, Device.powerOn_buffersOk, Device.powerOn_storeOk⟩
  · rw [State.reset_dev, Device.lane_powerOn]
    unfold LaneUnit.boundsOk
    decide
  · rw [State.reset_dev, Device.lane_powerOn]
    exact LabelDecoder.reset_ok

end
end Sys2Proof.Machine

/-! SUPPORT. The end of an event: what its notices, kind by kind, make of the outbound queue and of the held completions
(R134, R169 to R171). -/
namespace Sys2Proof.Machine
section
variable {d : Device} {e : Ev} {k k' : Link} {l m : Lane} {n : Notice} {ns : List Notice} {p : Device × Link}
  {c : Completion} {r : Nat} {s : State} {f : Ev → Ev}

/-! ## Notices by their kind -/

/-- An event's notices of one rank, in the order in which they arose. -/
def Ev.notesOf (e : Ev) (r : Nat) : List Notice := e.notes.filter fun n => n.rank = r

theorem orderNotices_notes (e : Ev) :
    orderNotices e.notes = e.notesOf 0 ++ e.notesOf 1 ++ e.notesOf 2 ++ e.notesOf 3 := rfl

@[simp] theorem Ev.notesOf_note : (e.note n).notesOf r = e.notesOf r ++ if n.rank = r then [n] else [] := by
  simp only [Ev.notesOf, Ev.note_notes, List.filter_append, List.filter_singleton]
  split <;> simp [*]

@[simp] theorem Ev.notesOf_modDev {g : Device → Device} : (e.modDev g).notesOf r = e.notesOf r := rfl
@[simp] theorem Ev.notesOf_setDram {x : Dram} : (e.setDram x).notesOf r = e.notesOf r := rfl
@[simp] theorem Ev.notesOf_modLane {g : LaneUnit → LaneUnit} : (e.modLane l g).notesOf r = e.notesOf r := rfl
@[simp] theorem Ev.notesOf_modOp {g : Controller → Controller} : (e.modOp l g).notesOf r = e.notesOf r := rfl
@[simp] theorem Ev.notesOf_modIngest {g : IngestLane → IngestLane} : (e.modIngest l g).notesOf r = e.notesOf r := rfl

theorem Ev.notesOf_setMonitor_of_ne {x : Monitor} {q : Nat} (h : r ≠ 1) : (e.setMonitor l x q).notesOf r = e.notesOf r := by
  unfold Ev.setMonitor
  dsimp only
  split
  · rfl
  · simp [Notice.rank, h.symm]

/-! ## Issuing -/

/-- One notice: the outbound queue stays as it is, or the notice joins its tail. -/
theorem issueNotice_outbound (p : Device × Link) (n : Notice) :
    (issueNotice p n).2.outbound = p.2.outbound ∨
      (issueNotice p n).2.outbound = p.2.outbound ++ [⟨.notice n, none⟩] := by
  have offer : (p.2.offerGeneral p.1.handler.mask n).outbound = p.2.outbound ∨
      (p.2.offerGeneral p.1.handler.mask n).outbound = p.2.outbound ++ [⟨.notice n, none⟩] := by
    rcases Link.offerGeneral_cases p.2 p.1.handler.mask n with ⟨-, h⟩ | ⟨-, -, h⟩ | ⟨-, -, h⟩ <;> rw [h]
    · exact .inl rfl
    · exact .inl rfl
    · exact .inr rfl
  cases n with
  | completion c =>
    show (issueCompletion p.1 p.2 c).2.outbound = _ ∨ (issueCompletion p.1 p.2 c).2.outbound = _
    rcases issueCompletion_cases p.1 p.2 c with ⟨-, h⟩ | ⟨-, h⟩ <;> rw [h]
    · exact .inl rfl
    · exact .inr rfl
  | _ => exact offer

/-- Notices join the tail of the outbound queue, no more records than notices. -/
theorem issueNotices_outbound (ns : List Notice) (p : Device × Link) :
    ∃ a, (ns.foldl issueNotice p).2.outbound = p.2.outbound ++ a ∧ a.length ≤ ns.length := by
  induction ns generalizing p with
  | nil => exact ⟨[], by simp⟩
  | cons n ns ih =>
    obtain ⟨a, ha, hlen⟩ := ih (issueNotice p n)
    rw [List.foldl_cons, ha]
    rcases issueNotice_outbound p n with h | h <;> rw [h]
    · exact ⟨a, rfl, Nat.le_succ_of_le hlen⟩
    · exact ⟨⟨.notice n, none⟩ :: a, by simp, Nat.succ_le_succ hlen⟩

theorem Link.generals_append {a : List Record} (h : k'.outbound = k.outbound ++ a) :
    k'.generals ≤ k.generals + a.length := by
  simp only [Link.generals, h, List.filter_append, List.length_append]
  exact Nat.add_le_add_left (List.length_filter_le _ _) _

/-- A general notice that is enabled joins the queue behind at most as many records as notices are issued before it, when
there are places left for all of them (R169, R170). -/
theorem Ev.commit_joins {pre post : List Notice} (h : orderNotices e.notes = pre ++ n :: post) (hn : n.rank ≠ 3)
    (hm : e.dev.handler.mask.enables n = true) (hg : k.generals + pre.length < 8) :
    ∃ a b, a.length ≤ pre.length ∧
      (e.commit k).2.outbound = k.outbound ++ a ++ ⟨.notice n, none⟩ :: b := by
  have hh : (pre.foldl issueNotice (e.dev, k)).1.handler = e.dev.handler :=
    foldl_keeps issueNotice (fun p => p.1.handler) (fun p n => (issueNotice_frame p n).2.2.2.2.2) pre (e.dev, k)
  obtain ⟨a, ha, hlen⟩ := issueNotices_outbound pre (e.dev, k)
  have hgen := Link.generals_append ha
  rw [Ev.commit, h, List.foldl_append, List.foldl_cons]
  generalize pre.foldl issueNotice (e.dev, k) = p at hh ha hgen
  have hi : issueNotice p n = (p.1, p.2.join (.notice n)) := by
    rcases Link.offerGeneral_cases p.2 p.1.handler.mask n with ⟨hx, -⟩ | ⟨-, hx, -⟩ | ⟨-, -, hx⟩
    · rw [hh, hm] at hx; cases hx
    · dsimp only at hgen; omega
    · cases n with
      | completion c => exact absurd rfl hn
      | _ => exact congrArg (Prod.mk p.1) hx
  obtain ⟨b, hb, -⟩ := issueNotices_outbound post (issueNotice p n)
  refine ⟨a, b, hlen, ?_⟩
  rw [hb, hi, Link.join_outbound, ha]; simp

/-- An event whose first notice is a general one: it joins first where one can join (R169, R170). -/
theorem Ev.commit_joins_first {rest : List Notice} (h : e.notesOf 0 = n :: rest) (hn : n.rank ≠ 3)
    (hm : e.dev.handler.mask.enables n = true) (hg : k.generals < 8) :
    ∃ more, (e.commit k).2.outbound = k.outbound ++ ⟨.notice n, none⟩ :: more := by
  have ho : orderNotices e.notes = [] ++ n :: (rest ++ e.notesOf 1 ++ e.notesOf 2 ++ e.notesOf 3) := by
    rw [orderNotices_notes, h]; rfl
  obtain ⟨a, b, ha, hb⟩ := Ev.commit_joins ho hn hm hg
  obtain rfl := List.length_eq_zero_iff.1 (Nat.le_zero.1 ha)
  exact ⟨b, by rw [hb]; simp⟩

/-! ## Completions -/

/-- General notices leave the part alone, and the completions of the queue. -/
theorem issueGenerals (h : ∀ n ∈ ns, n.rank ≠ 3) (p : Device × Link) :
    (ns.foldl issueNotice p).1 = p.1 ∧
      ∀ l, (ns.foldl issueNotice p).2.hasCompletion l = p.2.hasCompletion l := by
  induction ns generalizing p with
  | nil => exact ⟨rfl, fun _ => rfl⟩
  | cons n ns ih =>
    simp only [List.forall_mem_cons] at h
    obtain ⟨h1, h2⟩ := ih h.2 (issueNotice p n)
    have hn : (issueNotice p n).1 = p.1 ∧ ∀ l, (issueNotice p n).2.hasCompletion l = p.2.hasCompletion l := by
      have offer (hc : ∀ l, (Message.notice n).isCompletionOf l = false) (l : Lane) :
          (p.2.offerGeneral p.1.handler.mask n).hasCompletion l = p.2.hasCompletion l := by
        rcases Link.offerGeneral_cases p.2 p.1.handler.mask n with ⟨-, hx⟩ | ⟨-, -, hx⟩ | ⟨-, -, hx⟩ <;> rw [hx]
        · rfl
        · simp [Link.hasCompletion, hc l]
      cases n with
      | completion c => exact absurd rfl h.1
      | _ => exact ⟨rfl, offer fun _ => rfl⟩
    exact ⟨h1.trans hn.1, fun l => (h2 l).trans (hn.2 l)⟩

/-- An event whose notices hold no completion leaves the part as its work did. -/
theorem Ev.commit_of_no_completion (h : e.notesOf 3 = []) (k : Link) : (e.commit k).1 = e.dev := by
  refine (issueGenerals (fun n hn => ?_) _).1
  have hm : n ∈ e.notes := by
    simp only [orderNotices, List.mem_append, List.mem_filter] at hn; tauto
  exact fun hr => List.ne_nil_of_mem (List.mem_filter.2 ⟨hm, decide_eq_true hr⟩) h

/-- An event with one completion: it joins the queue behind the event's other records, or is held while the lane's previous
one is there (R134, R169). -/
theorem Ev.commit_of_one_completion (h : e.notesOf 3 = [.completion c]) (k : Link) :
    (k.hasCompletion c.lane = false → (e.commit k).1 = e.dev ∧
        ∃ a, (e.commit k).2.outbound = k.outbound ++ a ++ [⟨.notice (.completion c), none⟩]) ∧
      (k.hasCompletion c.lane = true → (e.commit k).1 =
        e.dev.modLane c.lane fun u => { u with op := { u.op with held := some c } }) := by
  have hg : ∀ n ∈ e.notesOf 0 ++ e.notesOf 1 ++ e.notesOf 2, n.rank ≠ 3 := by
    simp only [Ev.notesOf, List.mem_append, List.mem_filter, decide_eq_true_eq]
    rintro n ((⟨-, hn⟩ | ⟨-, hn⟩) | ⟨-, hn⟩) <;> omega
  rw [Ev.commit, orderNotices_notes, h, List.foldl_append]
  obtain ⟨hd, hc⟩ := issueGenerals hg (e.dev, k)
  obtain ⟨a, ha, -⟩ := issueNotices_outbound (e.notesOf 0 ++ e.notesOf 1 ++ e.notesOf 2) (e.dev, k)
  generalize (e.notesOf 0 ++ e.notesOf 1 ++ e.notesOf 2).foldl issueNotice (e.dev, k) = p at hd hc ha
  rw [List.foldl_cons, List.foldl_nil, show issueNotice p (.completion c) = issueCompletion p.1 p.2 c from rfl]
  refine ⟨fun hk => ?_, fun hk => ?_⟩
  · rcases issueCompletion_cases p.1 p.2 c with ⟨hx, -⟩ | ⟨-, hx⟩
    · rw [hc, hk] at hx; cases hx
    · rw [hx]; exact ⟨hd, a, by rw [Link.join_outbound, ha]⟩
  · rcases issueCompletion_cases p.1 p.2 c with ⟨-, hx⟩ | ⟨hx, -⟩
    · rw [hx, hd]
    · rw [hc, hk] at hx; cases hx

end
end Sys2Proof.Machine

/-! SUPPORT. How operations end: the controller and the completion record of an end, a transfer's end by what is outstanding,
and what a lock loss does to each operation (R133, R143, R144, R152). -/
namespace Sys2Proof.Machine
section
variable {d d' : Device} {e e' : Ev} {k : Link} {l m : Lane} {n : Notice} {op : Controller} {s : State} {f : Ev → Ev}
  {cls : EndClass} {cause : Option Cause} {part : OpPart} {p : TransferParams}

/-! ## The operation as an event has it -/

/-- A controller without its pending jobs. -/
def Controller.sansJobs (op : Controller) : Controller := { op with jobs := [] }

/-- Lane `l`'s operation as an event has it, the pending jobs aside, with the completions issued so far. -/
def Ev.opView (e : Ev) (l : Lane) : Controller × List Notice := ((e.dev.lane l).op.sansJobs, e.notesOf 3)

theorem Ev.opView_ext (h : (e'.dev.lane l).op.sansJobs = (e.dev.lane l).op.sansJobs)
    (hn : e'.notesOf 3 = e.notesOf 3) : e'.opView l = e.opView l := Prod.ext h hn

/-- A change of the lane that leaves its controller. -/
theorem Ev.opView_modLane {g : LaneUnit → LaneUnit} (h : (g (e.dev.lane l)).op.sansJobs = (e.dev.lane l).op.sansJobs) :
    (e.modLane l g).opView l = e.opView l :=
  Ev.opView_ext (by rw [Ev.modLane_dev, Device.lane_modLane_self, h]) rfl

@[simp] theorem Ev.opView_modIngest {g : IngestLane → IngestLane} : (e.modIngest l g).opView l = e.opView l :=
  Ev.opView_modLane rfl

theorem Ev.opView_note (h : n.rank ≠ 3) : (e.note n).opView l = e.opView l :=
  Ev.opView_ext rfl (by simp [h])

@[simp] theorem Ev.opView_setLaneState {x : LaneState} {q : Nat} : (e.setLaneState l x q).opView l = e.opView l := by
  rw [Ev.setLaneState, Ev.opView_note (by simp [Notice.rank]), Ev.opView_modIngest]

@[simp] theorem Ev.opView_setMonitor {x : Monitor} {q : Nat} : (e.setMonitor l x q).opView l = e.opView l := by
  unfold Ev.setMonitor
  dsimp only
  split
  · exact Ev.opView_modLane rfl
  · rw [Ev.opView_note (by simp [Notice.rank]), Ev.opView_modLane rfl]

@[simp] theorem Ev.opView_readyWaiting {x : Option SlotId} : (e.readyWaiting l x).opView l = e.opView l := by
  refine Ev.opView_ext ?_ rfl
  show ((e.dev.readyWaiting l x).lane l).op.sansJobs = _
  unfold Device.readyWaiting
  split
  · rfl
  · cases x <;> simp [Controller.sansJobs]

@[simp] theorem Ev.opView_discontinuity {q : Nat} : (e.discontinuity l q).opView l = e.opView l := by
  rw [Ev.discontinuity, Ev.opView_readyWaiting, Ev.resetTracker, Ev.opView_setMonitor]

/-! ## The end of an operation -/

/-- The controller after its operation has ended and completed in one event (R133). -/
def Controller.ended (op : Controller) (cls : EndClass) (cause : Option Cause) : Controller :=
  { op.recordEnd cls cause with state := .idle, snapshot := none, waitTimer := false, lastTag := op.markCompleted }

/-- The completion record of an operation that ends. -/
def Controller.endRecord (op : Controller) (l : Lane) (cls : EndClass) (cause : Option Cause) (part : OpPart) :
    Completion := (op.recordEnd cls cause).record l part

theorem Controller.mem_causes_recordEnd {c : Cause} : c ∈ (op.recordEnd cls (some c)).causes := by
  simp only [Controller.recordEnd, insertCause]
  split <;> simp [*]

/-- The operation and its completions after it has ended. -/
def endedView (v : Controller × List Notice) (l : Lane) (cls : EndClass) (cause : Option Cause) (part : OpPart) :
    Controller × List Notice := (v.1.ended cls cause, v.2 ++ [.completion (v.1.endRecord l cls cause part)])

theorem Ev.notesOf_complete {r : Nat} : (e.complete l part).notesOf r =
    e.notesOf r ++ if r = 3 then [.completion ((e.dev.lane l).op.record l part)] else [] := by
  simp [Ev.complete, Notice.rank, eq_comm]

@[simp] theorem Ev.opView_endNow :
    (e.endNow l cls cause part).opView l = endedView (e.opView l) l cls cause part := by
  refine Prod.ext ?_ ?_
  · simp [Ev.opView, Ev.endNow, Ev.complete, endedView]
    rfl
  · simp only [Ev.opView, Ev.endNow, Ev.notesOf_complete, Ev.notesOf_modOp, Ev.modOp_dev, Device.lane_modLane_self]
    rfl

/-! ## Transfers (R152) -/

theorem Device.drained_iff : d.drained l = true ↔ ¬d.outstanding l := by
  cases hj : (d.lane l).op.jobs <;> cases hr : d.engine.running <;>
    simp [Device.drained, Device.outstanding, hj, hr]

theorem Device.drained_congr (hj : (d'.lane l).op.jobs.length = (d.lane l).op.jobs.length)
    (he : d'.engine = d.engine) (hc : (d'.lane l).channel = (d.lane l).channel)
    (ht : (d'.lane l).op.transferId = (d.lane l).op.transferId) : d'.drained l = d.drained l := by
  have hn : (d'.lane l).op.jobs.isEmpty = (d.lane l).op.jobs.isEmpty := by
    rw [Bool.eq_iff_iff, List.isEmpty_iff_length_eq_zero, List.isEmpty_iff_length_eq_zero, hj]
  simp only [Device.drained, hn, he, hc, ht]

theorem Ev.drained_of_beside (h : e'.dev.beside = e.dev.beside) (hv : e'.opView l = e.opView l) :
    e'.dev.drained l = e.dev.drained l :=
  Device.drained_congr (Device.jobsLength_of_beside h l) (Device.engine_of_beside h) (Device.channel_of_beside h l)
    (congrArg (fun v => v.1.transferId) hv)

/-- The controller of a transfer that ends by another way than STOP and RELEASE, with work outstanding (R133). -/
def Controller.drain (op : Controller) (cls : EndClass) (cause : Option Cause) (p : TransferParams) : Controller :=
  { op.recordEnd cls cause with state := .transfer .draining p }

theorem Ev.endTransfer_eq {sub : SubState} (h : (e.dev.lane l).op.state = .transfer sub p) :
    e.endTransfer l cls cause = (e.modOp l fun op => op.drain cls cause p).settle l := by
  have hd : e.dev.modLane l _ = e.dev.modLane l fun u => { u with op := u.op.drain cls cause p } :=
    Device.modLane_congr (d := e.dev) (l := l) (f := fun u => { u with op := match u.op.state with
      | .transfer _ p => { u.op.recordEnd cls cause with state := .transfer .draining p }
      | _ => u.op }) (by simp only [h]; rfl)
  exact congrArg (fun d => (⟨d, e.notes⟩ : Ev).settle l) hd

/-- A DRAINING transfer completes where nothing is outstanding (R152). -/
theorem Ev.settle_of_draining (h : (e.dev.lane l).op.state = .transfer .draining p) :
    e.settle l = if e.dev.drained l then e.complete l .nothing else e := by
  simp only [Ev.settle, h]

/-- A transfer that ends: it has completed where nothing was outstanding, and else it drains (R133, R152). -/
theorem Ev.opView_endTransfer {sub : SubState} (h : (e.dev.lane l).op.state = .transfer sub p) :
    (e.endTransfer l cls cause).opView l =
      if e.dev.drained l then endedView (e.opView l) l cls cause .nothing
      else ((e.opView l).1.drain cls cause p, (e.opView l).2) := by
  have hop : ((e.modOp l fun op => op.drain cls cause p).dev.lane l).op = (e.dev.lane l).op.drain cls cause p := by
    simp
  have hd : (e.modOp l fun op => op.drain cls cause p).dev.drained l = e.dev.drained l :=
    Device.drained_congr (by rw [hop]; rfl) rfl (by simp) (by rw [hop]; rfl)
  rw [Ev.endTransfer_eq h, Ev.settle_of_draining (p := p) (by rw [hop]; rfl), hd]
  split
  · refine Prod.ext ?_ ?_
    · simp only [Ev.opView, Ev.complete, Ev.note_dev, Ev.modOp_dev, Device.lane_modLane_self]
      simp [endedView, Controller.ended, Controller.drain, Controller.recordEnd, Controller.sansJobs,
        Controller.markCompleted, h]
    · rw [Ev.opView, Ev.notesOf_complete, hop]
      simp [endedView, Ev.opView, Controller.endRecord, Controller.record, OpState.kind, h, Controller.sansJobs,
        Controller.recordEnd, Controller.drain]
  · exact Prod.ext (congrArg Controller.sansJobs hop) rfl

/-! ## Lock losses (R143, R144) -/

/-- The cause of a lock loss by the state the lane enters. -/
def lossCause (new : LaneState) : Option Cause := if new = .noSignal then some .noSignal else none

/-- The operations that a lock loss ends at once. -/
def OpState.endsOnLoss : OpState → Prop
  | .cueing _ _ _ => True
  | .scanning _ => True
  | .probing => True
  | .transfer .armed _ => True
  | _ => False

theorem OpState.endsOnLoss_of_kind {x : OpState}
    (h : x.kind = .cue ∨ x.kind = .scan ∨ x.kind = .probe ∨ ∃ p, x = .transfer .armed p) : x.endsOnLoss := by
  cases x with
  | transfer sub p => cases sub <;> simp [OpState.kind, OpState.endsOnLoss] at h ⊢
  | _ => simp [OpState.kind, OpState.endsOnLoss] at h ⊢

/-- Between two moments of an event a lock loss has reached lane `l`'s operation. -/
structure Ev.LostLock (e e' : Ev) (l : Lane) (new : LaneState) : Prop where
  ended    : (e.dev.lane l).op.state.endsOnLoss →
    e'.opView l = endedView (e.opView l) l .sourceChange (lossCause new) .nothing
  running  : ∀ p, (e.dev.lane l).op.state = .transfer .running p → e'.opView l =
    if e.dev.drained l then endedView (e.opView l) l .sourceChange (lossCause new) .nothing
    else ((e.opView l).1.drain .sourceChange (lossCause new) p, (e.opView l).2)
  draining : ∀ p, (e.dev.lane l).op.state = .transfer .draining p → e'.opView l = e.opView l

variable {new : LaneState}

theorem Ev.LostLock.trans_eq {e'' : Ev} (h : e.LostLock e' l new) (hv : e''.opView l = e'.opView l) :
    e.LostLock e'' l new := ⟨fun x => hv.trans (h.ended x), fun p x => hv.trans (h.running p x),
      fun p x => hv.trans (h.draining p x)⟩

theorem Ev.LostLock.eq_trans {e₀ : Ev} (hv : e.opView l = e₀.opView l) (hd : e.dev.drained l = e₀.dev.drained l)
    (h : e.LostLock e' l new) : e₀.LostLock e' l new := by
  have hs : (e.dev.lane l).op.state = (e₀.dev.lane l).op.state := congrArg (fun v => v.1.state) hv
  obtain ⟨h1, h2, h3⟩ := h
  rw [hs, hv] at h1 h2 h3
  rw [hd] at h2
  exact ⟨h1, h2, h3⟩

theorem Ev.sourceChange_lostLock : e.LostLock (e.sourceChange l new) l new := by
  refine ⟨fun h => ?_, fun p h => ?_, fun p h => ?_⟩
  · have hx : e.sourceChange l new = e.endNow l .sourceChange (lossCause new) .nothing := by
      unfold Ev.sourceChange
      generalize (e.dev.lane l).op.state = x at h
      match x, h with
      | .cueing _ _ _, _ | .scanning _, _ | .probing, _ | .transfer .armed _, _ => rfl
    rw [hx, Ev.opView_endNow]
  · have hx : e.sourceChange l new = e.endTransfer l .sourceChange (lossCause new) := by
      simp [Ev.sourceChange, h, lossCause]
    rw [hx, Ev.opView_endTransfer h]
  · have hx : e.sourceChange l new = e := by simp [Ev.sourceChange, h]
    rw [hx]

theorem Ev.lockLoss_lostLock {kept : Option Nat} : e.LostLock (e.lockLoss l new kept) l new := by
  unfold Ev.lockLoss
  refine .eq_trans ?_ ?_ Ev.sourceChange_lostLock
  · repeat' split
    all_goals simp
  · refine Ev.drained_of_beside ?_ ?_ <;> (repeat' split) <;> simp

/-! ## What the end of the event leaves -/

/-- The end of an event changes of a lane at most which completion is held (R134). -/
theorem Ev.commit_lane (e : Ev) (k : Link) (m : Lane) :
    ∃ h, (e.commit k).1.lane m = { e.dev.lane m with op := { (e.dev.lane m).op with held := h } } := by
  have one (p : Device × Link) (n : Notice) :
      ∃ h, (issueNotice p n).1.lane m = { p.1.lane m with op := { (p.1.lane m).op with held := h } } := by
    cases n with
    | completion c =>
      show ∃ h, (issueCompletion p.1 p.2 c).1.lane m = _
      rcases issueCompletion_cases p.1 p.2 c with ⟨-, hx⟩ | ⟨-, hx⟩ <;> rw [hx]
      · rw [Device.lane_modLane]
        split
        · subst m; exact ⟨_, rfl⟩
        · exact ⟨_, rfl⟩
      · exact ⟨_, rfl⟩
    | _ => exact ⟨_, rfl⟩
  unfold Ev.commit
  generalize orderNotices e.notes = ns
  suffices H : ∀ p : Device × Link, ∃ h,
      (ns.foldl issueNotice p).1.lane m = { p.1.lane m with op := { (p.1.lane m).op with held := h } } from H _
  induction ns with
  | nil => exact fun p => ⟨_, rfl⟩
  | cons n ns ih =>
    intro p
    obtain ⟨h, h1⟩ := one p n
    obtain ⟨h', h2⟩ := ih (issueNotice p n)
    exact ⟨h', by rw [List.foldl_cons, h2, h1]⟩

/-- The controller after an event, the held completion and the pending jobs aside. -/
theorem State.event_op (s : State) (f : Ev → Ev) (m : Lane) :
    ∃ h, ((s.event f).dev.lane m).op = { ((f (Ev.start s.dev)).dev.lane m).op with held := h } := by
  obtain ⟨h, hx⟩ := Ev.commit_lane (f (Ev.start s.dev)) s.link m
  exact ⟨h, by rw [show (s.event f).dev.lane m = _ from hx]⟩

theorem State.event_beside (s : State) (f : Ev → Ev) : (s.event f).dev.beside = (f (Ev.start s.dev)).dev.beside :=
  Ev.beside_commit _ _

theorem State.event_monitor (s : State) (f : Ev → Ev) (m : Lane) :
    ((s.event f).dev.lane m).monitor = ((f (Ev.start s.dev)).dev.lane m).monitor := by
  obtain ⟨h, hx⟩ := Ev.commit_lane (f (Ev.start s.dev)) s.link m
  rw [show (s.event f).dev.lane m = _ from hx]

theorem State.event_jobs (s : State) (f : Ev → Ev) (m : Lane) :
    ((s.event f).dev.lane m).op.jobs = ((f (Ev.start s.dev)).dev.lane m).op.jobs := by
  obtain ⟨h, hx⟩ := s.event_op f m
  rw [hx]

/-- An event in which an operation ended and completed, seen from outside. -/
theorem State.endsWith_of_view (h : (f (Ev.start s.dev)).opView l = endedView (op.sansJobs, []) l cls cause part)
    (ht : op.tag = (s.dev.lane l).op.tag) : s.endsWith (s.event f) l (op.sansJobs.endRecord l cls cause part) := by
  obtain ⟨x, hx⟩ := s.event_op f l
  have hop : ((f (Ev.start s.dev)).dev.lane l).op.sansJobs = op.sansJobs.ended cls cause := congrArg Prod.fst h
  have hc := Ev.commit_of_one_completion (c := op.sansJobs.endRecord l cls cause part) (congrArg Prod.snd h) s.link
  refine ⟨?_, ?_, ?_, fun hk => ?_, fun hk => ?_, rfl, ht⟩
  · rw [hx]; exact congrArg Controller.state hop
  · rw [hx]; exact congrArg Controller.snapshot hop
  · rw [hx]; exact congrArg Controller.waitTimer hop
  · obtain ⟨a, ha⟩ := (hc.1 hk).2
    exact ⟨a, [], ha⟩
  · rw [show (s.event f).dev = _ from hc.2 hk]
    exact congrArg (fun u => u.op.held) (Device.lane_modLane_self _ l _)

/-- An event in which a RUNNING transfer ended, seen from outside. -/
theorem State.transferEnds_of_view {sub : SubState} (hs : op.state = .transfer sub p)
    (h : (f (Ev.start s.dev)).opView l =
      if s.dev.drained l then endedView (op.sansJobs, []) l cls cause .nothing
      else (op.sansJobs.drain cls cause p, []))
    (ht : op.tag = (s.dev.lane l).op.tag) : s.transferEnds (s.event f) l p cls cause := by
  obtain ⟨x, hx⟩ := s.event_op f l
  have hop := congrArg Prod.fst h
  dsimp only [Ev.opView] at hop
  have hcl : ((f (Ev.start s.dev)).dev.lane l).op.endClass = some cls := by
    have := congrArg Controller.endClass hop
    split at this <;> exact this
  have hca : ((f (Ev.start s.dev)).dev.lane l).op.endCause = cause := by
    have := congrArg Controller.endCause hop
    split at this <;> exact this
  have hcs : ((f (Ev.start s.dev)).dev.lane l).op.causes = (op.recordEnd cls cause).causes := by
    have := congrArg Controller.causes hop
    split at this <;> exact this
  refine ⟨by rw [hx]; exact hcl, by rw [hx]; exact hca, fun y hy => ?_, fun ho => ?_, fun ho => ?_⟩
  · rw [hx]
    show y ∈ ((f (Ev.start s.dev)).dev.lane l).op.causes
    rw [hcs]
    subst hy
    exact Controller.mem_causes_recordEnd
  · rw [hx]
    rw [if_neg (fun hd => Device.drained_iff.1 hd ho)] at hop
    exact congrArg Controller.state hop
  · rw [if_pos (Device.drained_iff.2 ho)] at h
    exact ⟨_, State.endsWith_of_view h ht, congrArg OpState.kind hs, rfl, rfl⟩

end
end Sys2Proof.Machine

/-! SUPPORT. What a lock loss leaves of the pending jobs and issues besides its completion; the no-signal timer's expiry. -/
namespace Sys2Proof.Machine
section
variable {d : Device} {e : Ev} {l m : Lane} {i : SlotId} {s : State} {r : Nat} {new : LaneState} {kept : Option Nat}
  {cls : EndClass} {cause : Option Cause} {part : OpPart}

/-! ## Notices of an end -/

theorem Ev.notesOf_endNow_of_ne (h : r ≠ 3) : (e.endNow l cls cause part).notesOf r = e.notesOf r := by
  simp [Ev.endNow, Ev.notesOf_complete, h]

theorem Ev.notesOf_settle_of_ne (h : r ≠ 3) : (e.settle l).notesOf r = e.notesOf r := by
  unfold Ev.settle
  split
  · split
    · simp [Ev.notesOf_complete, h]
    · rfl
  · rfl

theorem Ev.notesOf_endTransfer_of_ne (h : r ≠ 3) : (e.endTransfer l cls cause).notesOf r = e.notesOf r := by
  rw [Ev.endTransfer, Ev.notesOf_settle_of_ne h, Ev.notesOf_modOp]

theorem Ev.notesOf_sourceChange_of_ne (h : r ≠ 3) : (e.sourceChange l new).notesOf r = e.notesOf r := by
  unfold Ev.sourceChange
  dsimp only
  split
  case h_5 => exact Ev.notesOf_endTransfer_of_ne h
  case h_6 => rfl
  all_goals exact Ev.notesOf_endNow_of_ne h

@[simp] theorem Ev.notesOf_readyWaiting {n : Option SlotId} : (e.readyWaiting l n).notesOf r = e.notesOf r := rfl

/-- Beside a completion a lock loss issues nothing. -/
theorem Ev.notesOf_lockLoss_of_ne (h : r ≠ 3) : (e.lockLoss l new kept).notesOf r = e.notesOf r := by
  unfold Ev.lockLoss
  dsimp only
  rw [Ev.notesOf_sourceChange_of_ne h]
  repeat' split
  all_goals rfl

/-! ## The Cadence Monitor -/

/-- Ends of operations and ready jobs leave the Cadence Monitors alone. -/
theorem Device.monitor_readyWaiting {n : Option SlotId} :
    ((d.readyWaiting l n).lane l).monitor = (d.lane l).monitor := by
  unfold Device.readyWaiting
  split
  · rfl
  · cases n <;> simp

@[simp] theorem Ev.endNow_monitor : ((e.endNow l cls cause part).dev.lane l).monitor = (e.dev.lane l).monitor := by
  simp [Ev.endNow, Ev.complete]

@[simp] theorem Ev.endTransfer_monitor :
    ((e.endTransfer l cls cause).dev.lane l).monitor = (e.dev.lane l).monitor := by
  unfold Ev.endTransfer Ev.settle
  repeat' split
  all_goals simp [Ev.complete]

theorem Ev.lockLoss_monitor : ((e.lockLoss l new kept).dev.lane l).monitor = (e.dev.lane l).monitor := by
  have hs {e : Ev} : ((e.sourceChange l new).dev.lane l).monitor = (e.dev.lane l).monitor := by
    unfold Ev.sourceChange
    dsimp only
    split <;> simp
  unfold Ev.lockLoss
  dsimp only
  rw [hs]
  split
  · split
    · rfl
    · exact Device.monitor_readyWaiting
  · rfl

/-! ## Pending jobs -/

@[simp] theorem Ev.endNow_jobs : ((e.endNow l cls cause part).dev.lane l).op.jobs = (e.dev.lane l).op.jobs := by
  simp [Ev.endNow, Ev.complete]

@[simp] theorem Ev.settle_jobs : ((e.settle l).dev.lane l).op.jobs = (e.dev.lane l).op.jobs := by
  unfold Ev.settle
  split
  · split
    · simp [Ev.complete]
    · rfl
  · rfl

@[simp] theorem Ev.endTransfer_jobs : ((e.endTransfer l cls cause).dev.lane l).op.jobs = (e.dev.lane l).op.jobs := by
  rw [Ev.endTransfer, Ev.settle_jobs, Ev.modOp_dev, Device.lane_modLane_self]
  dsimp only
  split <;> rfl

@[simp] theorem Ev.sourceChange_jobs : ((e.sourceChange l new).dev.lane l).op.jobs = (e.dev.lane l).op.jobs := by
  unfold Ev.sourceChange
  dsimp only
  split <;> simp

/-- No job of the lane waits for its next field. -/
def LaneUnit.noneWaiting (u : LaneUnit) : Prop := ∀ j ∈ u.op.jobs, j.state ≠ .waitingNext

theorem Device.noneWaiting_of_waitingJob (h : d.waitingJob l = none) : (d.lane l).noneWaiting := fun j hj => by
  simpa using List.find?_eq_none.1 h j hj

theorem Device.readyJob_state (d : Device) (n : Option SlotId) (j : Job) : (d.readyJob n j).state ≠ .waitingNext := by
  unfold Device.readyJob
  split
  · simp
  · assumption

/-- A job that becomes READY leaves none waiting. -/
theorem Device.noneWaiting_readyWaiting (d : Device) (l : Lane) (n : Option SlotId) :
    ((d.readyWaiting l n).lane l).noneWaiting := by
  unfold Device.readyWaiting
  split
  · exact Device.noneWaiting_of_waitingJob ‹_›
  · rw [Device.lane_modLane_self]
    intro j hj
    obtain ⟨j', -, rfl⟩ := List.mem_map.1 hj
    exact Device.readyJob_state _ _ _

theorem Ev.noneWaiting_readyWaiting (n : Option SlotId) : ((e.readyWaiting l n).dev.lane l).noneWaiting :=
  Device.noneWaiting_readyWaiting _ _ _

/-- A lock loss leaves no job waiting, but for one whose next field the report names (R89). -/
theorem Ev.noneWaiting_lockLoss (h : ∀ j, e.dev.waitingJob l = some j → kept ≠ some (j.sequence + 1)) :
    ((e.lockLoss l new kept).dev.lane l).noneWaiting := by
  unfold LaneUnit.noneWaiting Ev.lockLoss
  dsimp only
  rw [Ev.sourceChange_jobs]
  split
  · rw [if_neg (h _ ‹_›)]
    exact Ev.noneWaiting_readyWaiting _
  · exact Device.noneWaiting_of_waitingJob ‹_›

theorem Ev.lockLoss_jobs_of_kept {j : Job} (h : e.dev.waitingJob l = some j) (hk : kept = some (j.sequence + 1)) :
    ((e.lockLoss l new kept).dev.lane l).op.jobs = (e.dev.lane l).op.jobs := by
  unfold Ev.lockLoss
  dsimp only
  rw [Ev.sourceChange_jobs, h]
  simp only [hk, if_true]

/-! ## Freeing one WRITING slot -/

theorem Device.giveBack_writing_slot (k : SlotId) (h : (d.slot i).state = .writing) :
    (d.giveBack [] [i]).slot k = if k = i then Slot.empty else d.slot k := by
  rw [Device.giveBack_slot]
  by_cases hk : k = i
  · subst hk; simp [h]
  · simp [hk]

theorem Device.giveBack_writing_freeList (h : (d.slot i).state = .writing) :
    (d.giveBack [] [i]).freeList = d.freeList ++ [i] := by
  rw [Device.giveBack_freeList]
  congr 1
  refine List.perm_singleton.1 ((List.perm_ext_iff_of_nodup (Device.slotsToFree_nodup _ _ _) (List.nodup_singleton i)).2
    fun k => ?_)
  rw [Device.mem_given]
  constructor
  · rintro (⟨hk, -⟩ | ⟨hk, -⟩)
    · exact hk
    · simp at hk
  · intro hk
    obtain rfl := List.mem_singleton.1 hk
    exact .inl ⟨hk, h⟩

/-! ## The no-signal timer (R12) -/

/-- The event up to the lock loss: the field abandoned, the lane in NO_SIGNAL, the cause observed. -/
def Ev.signalLost (e : Ev) (l : Lane) : Ev :=
  (((e.modDev fun d => d.giveBack [] (e.dev.lane l).openSlot).modIngest l fun g =>
    { g with openField := none, prevParity := none, timer := false }).setLaneState l .noSignal
      (e.dev.lane l).ingest.sequence).modOp l fun op => op.observe .noSignal

theorem Ev.loseSignal_eq : e.loseSignal l =
    if (e.dev.lane l).ingest.state = .locked then (e.signalLost l).lockLoss l .noSignal none else e.signalLost l := rfl

/-- What the loss of signal makes of the lane. -/
theorem Ev.signalLost_lane : (e.signalLost l).dev.lane l =
    { e.dev.lane l with
      ingest := { (e.dev.lane l).ingest with
        state := .noSignal, goodRun := 0, badRun := 0, timer := false, prevParity := none, openField := none }
      op := (e.dev.lane l).op.observe .noSignal } := by
  simp [Ev.signalLost, Ev.setLaneState, Ev.modIngest]

theorem Ev.signalLost_notesOf : (e.signalLost l).notesOf r =
    e.notesOf r ++ if r = 0 then [.lock l .noSignal (e.dev.lane l).ingest.sequence] else [] := by
  simp [Ev.signalLost, Ev.setLaneState, Notice.rank, eq_comm]

theorem Ev.signalLost_opView :
    (e.signalLost l).opView l = (((e.dev.lane l).op.observe .noSignal).sansJobs, e.notesOf 3) := by
  rw [Ev.opView, Ev.signalLost_lane, Ev.signalLost_notesOf]
  simp

theorem Ev.signalLost_drained : (e.signalLost l).dev.drained l = e.dev.drained l := by
  refine Device.drained_congr ?_ ?_ ?_ ?_
  · rw [Ev.signalLost_lane]; simp
  · simp [Ev.signalLost, Ev.setLaneState, Ev.modIngest]
  · rw [Ev.signalLost_lane]
  · rw [Ev.signalLost_lane]; simp

theorem Ev.loseSignal_beside : (e.loseSignal l).dev.beside = (e.signalLost l).dev.beside := by
  rw [Ev.loseSignal_eq]
  split
  · exact Ev.beside_lockLoss _ _
  · rfl

theorem Controller.mem_causes_observe {op : Controller} {c : Cause} (h : op.state ≠ .idle) :
    c ∈ (op.observe c).causes := by
  have hi : ¬op.state.isIdle = true := fun hx => h (OpState.isIdle_iff.1 hx)
  simp only [Controller.observe, hi, insertCause]
  split
  · contradiction
  · split <;> simp [*]

theorem Ev.signalLost_device (e : Ev) (l : Lane) :
    (e.signalLost l).dev.slots = (e.dev.giveBack [] (e.dev.lane l).openSlot).slots ∧
      (e.signalLost l).dev.freeList = (e.dev.giveBack [] (e.dev.lane l).openSlot).freeList ∧
      (e.signalLost l).dev.dram = e.dev.dram :=
  ⟨rfl, rfl, Device.giveBack_dram _ _ _⟩

/-- The LOCK notice is the first record that the loss of signal issues. -/
theorem Ev.loseSignal_notesOf_zero : (e.loseSignal l).notesOf 0 = e.notesOf 0 ++
    [.lock l .noSignal (e.dev.lane l).ingest.sequence] := by
  rw [Ev.loseSignal_eq]
  split
  · rw [Ev.notesOf_lockLoss_of_ne (by decide), Ev.signalLost_notesOf, if_pos rfl]
  · rw [Ev.signalLost_notesOf, if_pos rfl]

/-- The command that lets the timer expire, where it runs in SEEKING or LOCKED. -/
theorem exec_timerExpiry (ht : (s.dev.lane l).ingest.timer = true)
    (hs : (s.dev.lane l).ingest.state = .seeking ∨ (s.dev.lane l).ingest.state = .locked) :
    exec (.noSignalTimerExpiry l) s = .next (s.event fun e => e.loseSignal l) := by
  have hx : (Ev.start s.dev).timerExpiry l = (Ev.start s.dev).loseSignal l :=
    if_pos (by rcases hs with hs | hs <;> simp [ht, hs])
  refine congrArg Host.Outcome.next ?_
  rw [State.event, State.event, hx]

theorem exec_timerExpiry_idle (h : (s.dev.lane l).ingest.timer = false ∨ (s.dev.lane l).ingest.state = .off ∨
    (s.dev.lane l).ingest.state = .noSignal) : exec (.noSignalTimerExpiry l) s = .next s :=
  congrArg Host.Outcome.next (State.event_of_idle (if_neg (by rcases h with h | h | h <;> simp [h])))

/-- From LOCKED the loss of signal is a lock loss for the operation, which has observed NO_SIGNAL. -/
theorem Ev.loseSignal_lostLock (h : (e.dev.lane l).ingest.state = .locked) :
    (e.signalLost l).LostLock (e.loseSignal l) l .noSignal := by
  rw [Ev.loseSignal_eq, if_pos h]
  exact Ev.lockLoss_lostLock

theorem Ev.loseSignal_noneWaiting (h : (e.dev.lane l).ingest.state = .locked) :
    ((e.loseSignal l).dev.lane l).noneWaiting := by
  rw [Ev.loseSignal_eq, if_pos h]
  exact Ev.noneWaiting_lockLoss fun _ _ h => nomatch h

theorem Ev.loseSignal_monitor : ((e.loseSignal l).dev.lane l).monitor = (e.dev.lane l).monitor := by
  have h : ((e.signalLost l).dev.lane l).monitor = (e.dev.lane l).monitor := by rw [Ev.signalLost_lane]
  rw [Ev.loseSignal_eq]
  split
  · rw [Ev.lockLoss_monitor, h]
  · exact h

end
end Sys2Proof.Machine

namespace Sys2Proof.Machine
section

/-- Settles O13: the expiry is the loss of signal, whose clauses are read off its part before the lock loss and off the
lock loss. -/
theorem timerExpiryLosesSignal : Obligations.TimerExpiryLosesSignal := by
  intro s l g hg
  subst hg
  refine ⟨exec_timerExpiry_idle, fun ht hs => ⟨_, exec_timerExpiry ht hs, ?_⟩⟩
  have hb : (s.event fun e => e.loseSignal l).dev.beside = ((Ev.start s.dev).signalLost l).dev.beside :=
    (s.event_beside _).trans Ev.loseSignal_beside
  have hlane := Ev.signalLost_lane (e := Ev.start s.dev) (l := l)
  obtain ⟨hslots, hfree, hdram⟩ := Ev.signalLost_device (Ev.start s.dev) l
  have hout : (s.event fun e => e.loseSignal l).dev.outside l = s.dev.outside l :=
    event_outside fun _ => Ev.outside_loseSignal
  obtain ⟨hso, hhd, -⟩ := Device.sameOutside_of_outside hout
  obtain ⟨x, hop⟩ := s.event_op (fun e => e.loseSignal l) l
  refine ⟨?_, fun hm hgen => ?_, fun f i hf hi hw => ?_, fun hn => ?_, fun n hn hseek => ?_, fun hlock => ?_, ?_, ?_, ?_,
    ?_, hso, hhd, rfl⟩
  · rw [Device.ingest_of_beside hb, hlane]; rfl
  · refine Ev.commit_joins_first Ev.loseSignal_notesOf_zero (by simp [Notice.rank]) ?_ hgen
    rw [show ((Ev.start s.dev).loseSignal l).dev.handler = s.dev.handler from
      congrArg (fun o => o.1.1) (Ev.outside_loseSignal (e := Ev.start s.dev) (l := l))]
    exact hm
  · have ho : (s.dev.lane l).openSlot = [i] := by simp [LaneUnit.openSlot, hf, hi]
    have hsl (k : SlotId) : (s.event fun e => e.loseSignal l).dev.slot k = if k = i then Slot.empty else s.dev.slot k := by
      rw [Device.slot_of_beside hb, ← Device.giveBack_writing_slot k hw, ← ho]
      exact congrArg (fun v : Vector Slot 96 => v[k]) hslots
    refine ⟨by rw [hsl, if_pos rfl]; rfl, ?_, fun k hk => by rw [hsl, if_neg hk]⟩
    rw [Device.freeList_of_beside hb, hfree, ← Device.giveBack_writing_freeList hw, ← ho]; rfl
  · have ho : (s.dev.lane l).openSlot = [] := by
      unfold LaneUnit.openSlot
      split
      · rw [hn _ ‹_›]; rfl
      · rfl
    rw [Ev.start_dev, ho, Device.giveBack_nil] at hslots hfree
    exact ⟨(Device.slots_of_beside hb).trans hslots, (Device.freeList_of_beside hb).trans hfree⟩
  · have he : (Ev.start s.dev).loseSignal l = (Ev.start s.dev).signalLost l :=
      if_neg (by rw [Ev.start_dev, hseek]; decide)
    have hc : ((Ev.start s.dev).loseSignal l).notesOf 3 = [] := by rw [he, Ev.signalLost_notesOf]; rfl
    rw [show (s.event fun e => e.loseSignal l).dev = _ from Ev.commit_of_no_completion hc s.link, he, hlane]
    simp [Controller.observe, hn, OpState.isIdle]
  · have hll := Ev.loseSignal_lostLock (e := Ev.start s.dev) (l := l) hlock
    have hst : (((Ev.start s.dev).signalLost l).dev.lane l).op.state = (s.dev.lane l).op.state := by
      rw [hlane]; simp
    have hv := Ev.signalLost_opView (e := Ev.start s.dev) (l := l)
    refine ⟨?_, fun hk => ?_, fun p hp => ?_, fun p hp => ?_⟩
    · rw [s.event_jobs]
      exact Ev.loseSignal_noneWaiting (e := Ev.start s.dev) hlock
    · have h1 := hll.ended (by rw [hst]; exact OpState.endsOnLoss_of_kind hk)
      rw [hv] at h1
      exact ⟨_, State.endsWith_of_view h1 (by simp), congrArg OpState.kind Controller.observe_state, rfl, rfl,
        Controller.mem_causes_recordEnd (cls := .sourceChange), Controller.observe_counts⟩
    · have h1 := hll.running p (by rw [hst]; exact hp)
      rw [hv, Ev.signalLost_drained] at h1
      exact State.transferEnds_of_view (by simpa using hp) h1 (by simp)
    · have h1 := (hll.draining p (by rw [hst]; exact hp)).trans hv
      have h2 : (((Ev.start s.dev).loseSignal l).dev.lane l).op.sansJobs =
        ((s.dev.lane l).op.observe .noSignal).sansJobs := congrArg Prod.fst h1
      rw [hop]
      refine ⟨?_, ?_, ?_⟩
      · exact (congrArg Controller.state h2).trans (by simpa [Controller.sansJobs] using hp)
      · exact (congrArg Controller.endCause h2).trans (by simp [Controller.sansJobs])
      · exact (congrArg Controller.causes h2) ▸ Controller.mem_causes_observe (by simp [hp])
  · rw [Device.window_of_beside hb, hlane]; rfl
  · rw [Device.decoder_of_beside hb, hlane]; rfl
  · rw [s.event_monitor]; exact Ev.loseSignal_monitor
  · exact (Device.dram_of_beside hb).trans hdram

end
end Sys2Proof.Machine

/-! SUPPORT. The take of a request, a lane's enable, and ACQUIRE (R3, R130, R135, R136, R166). -/
namespace Sys2Proof.Machine
section
variable {d : Device} {e : Ev} {l m : Lane} {s : State} {r : Request} {q : Nat}

/-! ## Taking a request -/

theorem State.request_of_takes {kind : Nat} {f : Device → Request → Answer} (h : s.takes kind r) :
    s.request kind f = s.answer r (f s.dev r) := by
  obtain ⟨ht, hk, hl⟩ := h
  simp [State.request, ht, hk, hl]

/-- A request whose event issues no notice. -/
theorem State.answer_of_notes_nil {a : Answer} (h : a.ev.notes = []) :
    s.answer r a = { s with dev := a.ev.dev, link := s.link.answered r a.outcome a.clamped a.data } := by
  simp [State.answer, Ev.commit_of_notes_nil h, Link.answered]

theorem field_zero_one (b : Byte) (bs : List Byte) : field (b :: bs) 0 1 = b.toNat := by
  simp [field, beNat]

theorem field_one_one (a b : Byte) (bs : List Byte) : field (a :: b :: bs) 1 1 = b.toNat := by
  simp [field, beNat]

theorem readLane_ofNat (l : Lane) : readLane (BitVec.ofNat 8 l.val : Byte).toNat = some l := by
  have : l.val % 256 = l.val := Nat.mod_eq_of_lt (by omega)
  simp [readLane, this]

/-- The first two checks of an operation request that names lane `l` (R130). -/
theorem operationRequest_of_lane {f : Lane → Answer} (h : field r.body 0 1 = (BitVec.ofNat 8 l.val : Byte).toNat) :
    operationRequest d r f =
      if (d.lane l).op.state ≠ .idle ∨ (d.lane l).op.held ≠ none then refuse d .busy else f l := by
  unfold operationRequest
  rw [h, readLane_ofNat]
  refine if_congr ?_ rfl rfl
  cases (d.lane l).op.state <;> cases (d.lane l).op.held <;> simp [OpState.isIdle]

/-! ## A lane's enable (R3, R30, R84) -/

theorem Ev.setMonitor_dev (m : Monitor) : (e.setMonitor l m q).dev = e.dev.modLane l fun u => { u with monitor := m } := by
  unfold Ev.setMonitor
  dsimp only
  split <;> rfl

theorem Ev.enableLane_dev : (e.enableLane l q).dev = e.dev.modLane l fun u =>
    { u with ingest := IngestLane.enabled, decoder := LabelDecoder.reset, monitor := Monitor.reset } := by
  simp [Ev.enableLane, Ev.resetLaneBlocks, Ev.setMonitor_dev, Ev.modIngest]

theorem Ev.enableLane_notesOf_zero : (e.enableLane l q).notesOf 0 = e.notesOf 0 ++ [.lock l .seeking q] := by
  rw [Ev.enableLane, Ev.notesOf_note, Ev.resetLaneBlocks, Ev.notesOf_setMonitor_of_ne (by decide), Ev.notesOf_modLane,
    Ev.notesOf_modIngest]
  rfl

theorem Ev.enableLane_notesOf_three : (e.enableLane l q).notesOf 3 = e.notesOf 3 := by
  rw [Ev.enableLane, Ev.notesOf_note, Ev.resetLaneBlocks, Ev.notesOf_setMonitor_of_ne (by decide), Ev.notesOf_modLane,
    Ev.notesOf_modIngest]
  exact List.append_nil _

/-! ## ACQUIRE (R135, R136) -/

/-- The controller of an accepted ACQUIRE. -/
def Controller.acquiring (op : Controller) (wait : Nat) (tag : Byte) : Controller :=
  { op.accept (.acquiring wait) tag with seekingCount := 0, waitTimer := true }

/-- The event of an accepted ACQUIRE on a lane that is not LOCKED. -/
def acquireEv (d : Device) (l : Lane) (wait : Nat) (tag : Byte) : Ev :=
  let e := (Ev.start d).modOp l fun op => op.acquiring wait tag
  if (d.lane l).ingest.state = .off then e.enableLane l 0 else e

section
variable {wait : Byte} (hb : r.body = [BitVec.ofNat 8 l.val, wait])
include hb

theorem acquireRequest_busy (h : (d.lane l).op.state ≠ .idle ∨ (d.lane l).op.held ≠ none) :
    acquireRequest d r = refuse d .busy := by
  rw [acquireRequest, operationRequest_of_lane (l := l) (by rw [hb, field_zero_one]), if_pos h]

theorem acquireRequest_free (h0 : wait ≠ 0) (hs : (d.lane l).op.state = .idle) (hh : (d.lane l).op.held = none) :
    acquireRequest d r =
      if (d.lane l).ingest.state = .locked then done (Ev.start d) (u8 LaneState.locked.code)
      else started (acquireEv d l wait.toNat r.tag)
        (u8 ((acquireEv d l wait.toNat r.tag).dev.lane l).ingest.state.code) := by
  have hw : wait.toNat ≠ 0 := fun h => h0 (BitVec.eq_of_toNat_eq h)
  have hr : readAcquire r.body = some wait.toNat := by rw [readAcquire, hb, field_one_one, if_neg hw]
  rw [acquireRequest, operationRequest_of_lane (l := l) (by rw [hb, field_zero_one]), if_neg (by simp [hs, hh]), hr]
  rfl

end

/-- What an accepted ACQUIRE leaves of the lane: OFF, it is enabled; enabled, it goes on as it is. -/
theorem acquireEv_dev {wait : Nat} {tag : Byte} : (acquireEv d l wait tag).dev = d.modLane l fun u =>
    if u.ingest.state = .off then
      { u with
        ingest := IngestLane.enabled, decoder := LabelDecoder.reset, monitor := Monitor.reset
        op := u.op.acquiring wait tag }
    else { u with op := u.op.acquiring wait tag } := by
  unfold acquireEv
  dsimp only
  split
  · rw [Ev.enableLane_dev, Ev.modOp_dev, Device.modLane_modLane]
    exact Device.modLane_congr (by simp [*])
  · rw [Ev.modOp_dev]
    exact Device.modLane_congr (by simp [*])

theorem acquireEv_notesOf_three {wait : Nat} {tag : Byte} : (acquireEv d l wait tag).notesOf 3 = [] := by
  unfold acquireEv
  dsimp only
  split
  · exact Ev.enableLane_notesOf_three
  · rfl

/-- Settles O48. -/
theorem acquireSeeksLock : Obligations.AcquireSeeksLock := by
  intro s r l wait ht hbody
  have hex : exec .acquire s = .next (s.answer r (acquireRequest s.dev r)) :=
    congrArg Host.Outcome.next (State.request_of_takes ht)
  rw [hex]
  refine ⟨fun h => ?_, fun h0 hidle hheld => ⟨fun hl => ?_, fun hl => ?_⟩⟩
  · rw [acquireRequest_busy hbody h, State.answer_of_notes_nil rfl]; rfl
  · rw [acquireRequest_free hbody h0 hidle hheld, if_pos hl, State.answer_of_notes_nil rfl]; rfl
  · rw [acquireRequest_free hbody h0 hidle hheld, if_neg hl]
    have hdev : (s.answer r (started (acquireEv s.dev l wait.toNat r.tag)
        (u8 ((acquireEv s.dev l wait.toNat r.tag).dev.lane l).ingest.state.code))).dev =
        (acquireEv s.dev l wait.toNat r.tag).dev := Ev.commit_of_no_completion acquireEv_notesOf_three _
    have hlane : (acquireEv s.dev l wait.toNat r.tag).dev.lane l = _ :=
      (congrArg (fun d => Device.lane d l) acquireEv_dev).trans (Device.lane_modLane_self _ _ _)
    have hop : ((acquireEv s.dev l wait.toNat r.tag).dev.lane l).op = (s.dev.lane l).op.acquiring wait.toNat r.tag := by
      rw [hlane]; split <;> rfl
    refine ⟨_, ⟨r.kind, r.tag, .started, false, _⟩, rfl, List.getLast?_concat, rfl, ?_⟩
    rw [hdev, hop]
    refine ⟨rfl, rfl, rfl, rfl, rfl, rfl, fun hoff => ?_, fun hon => ?_, fun k hk => ?_, ?_, ?_, ?_, ?_, ?_, rfl⟩
    · have hu := hlane.trans (if_pos hoff)
      rw [hu]
      refine ⟨rfl, rfl, rfl, rfl, fun hm hg => ?_⟩
      have hz : (acquireEv s.dev l wait.toNat r.tag).notesOf 0 = [.lock l .seeking 0] := by
        rw [acquireEv, if_pos hoff]; exact Ev.enableLane_notesOf_zero
      obtain ⟨more, hmore⟩ := Ev.commit_joins_first (k := s.link.dequeue) hz (by simp [Notice.rank])
        (by rw [acquireEv_dev]; exact hm) hg
      exact ⟨more ++ [_], (congrArg (· ++ [_]) hmore).trans (List.append_assoc _ _ _)⟩
    · have hu := hlane.trans (if_neg hon)
      rw [hu]
      refine ⟨rfl, rfl, rfl, rfl, ?_⟩
      have hnil : (acquireEv s.dev l wait.toNat r.tag).notes = [] := by rw [acquireEv, if_neg hon]; rfl
      rw [State.answer_of_notes_nil hnil]; rfl
    · rw [acquireEv_dev, Device.lane_modLane_of_ne _ _ hk]
    · rw [acquireEv_dev, Device.modLane_slots]
    · rw [acquireEv_dev, Device.modLane_freeList]
    · rw [acquireEv_dev, Device.modLane_dram]
    · rw [hlane]; split <;> rfl
    · rw [acquireEv_dev, Device.modLane_handler]

end
end Sys2Proof.Machine

/-! SUPPORT. The Ingest Lane through a field-start: what the chain of the field before leaves of it, and what the close, the
re-entry at the top of the counter and the opening make of it (R5, R6, R8 to R10). -/
namespace Sys2Proof.Machine
section
variable {d d' : Device} {e : Ev} {l : Lane} {i : SlotId} {s : State} {q : Nat} {p : Parity} {b : Bool}

/-! ## The chain leaves the Ingest Lane alone -/

/-- What of a lane the decoder's signals and the settings alone move. -/
def Device.signals (d : Device) (l : Lane) : Settings × IngestLane := ((d.lane l).settings, (d.lane l).ingest)

theorem Device.signals_of_beside (h : d'.beside = d.beside) : d'.signals l = d.signals l :=
  Prod.ext (Device.settings_of_beside h l) (Device.ingest_of_beside h l)

theorem Device.signals_modLane {f : LaneUnit → LaneUnit} (hs : (f (d.lane l)).settings = (d.lane l).settings)
    (hi : (f (d.lane l)).ingest = (d.lane l).ingest) : (d.modLane l f).signals l = d.signals l := by
  simp [Device.signals, hs, hi]

theorem Device.signals_of_lanes (h : d'.lanes = d.lanes) : d'.signals l = d.signals l := by
  simp [Device.signals, Device.lane, h]

theorem Ev.signals_setChain (c : Option ChainField) : (e.setChain l c).dev.signals l = e.dev.signals l :=
  Device.signals_modLane (f := fun u => { u with chain := c }) rfl rfl

theorem Ev.signals_modOp (g : Controller → Controller) : (e.modOp l g).dev.signals l = e.dev.signals l :=
  Device.signals_modLane (f := fun u => { u with op := g u.op }) rfl rfl

theorem Device.signals_joinWindow : (d.joinWindow l i).signals l = d.signals l := by
  unfold Device.joinWindow
  split
  · rw [Device.signals_of_lanes (Device.giveBack_lanes _ _ _)]
    exact Device.signals_modLane (d := d.setSlot i _) (f := fun u => { u with window := _ }) rfl rfl
  · exact Device.signals_modLane (d := d.setSlot i _) (f := fun u => { u with window := _ }) rfl rfl

theorem Device.signals_readyWaiting {n : Option SlotId} : (d.readyWaiting l n).signals l = d.signals l := by
  unfold Device.readyWaiting
  split
  · rfl
  · cases n
    · exact Device.signals_modLane (f := fun u => { u with op := _ }) rfl rfl
    · exact Device.signals_modLane (d := d.takeRef _) (f := fun u => { u with op := _ }) rfl rfl

theorem Device.signals_createJob {r : FieldRecord} {x : Snapshot} :
    (d.createJob l i r x b).signals l = d.signals l := by
  unfold Device.createJob
  exact (Device.signals_modLane rfl rfl).trans (Device.signals_of_lanes (Device.takeRefs_lanes _ _))

theorem Ev.signals_dueJob {r : FieldRecord} {t : TransferParams} :
    (e.dueJob l i r t).dev.signals l = e.dev.signals l := by
  unfold Ev.dueJob
  dsimp only
  split
  · split
    · exact Device.signals_createJob
    · rfl
  · split
    · exact (Device.signals_of_beside (Ev.beside_endTransfer _ _)).trans (Ev.signals_modOp _)
    · exact Ev.signals_modOp _

theorem Ev.signals_judgeRunning {r : FieldRecord} {t : TransferParams} :
    (e.judgeRunning l i r t b).dev.signals l = e.dev.signals l := by
  unfold Ev.judgeRunning
  extract_lets past
  split
  · exact (Device.signals_of_beside (Ev.beside_endTransfer _ _)).trans (Ev.signals_modOp _)
  split
  · exact (Device.signals_of_beside (Ev.beside_endTransfer _ _)).trans (Ev.signals_modOp _)
  split
  · exact (Device.signals_of_beside (Ev.beside_testEnd _)).trans (Ev.signals_modOp _)
  · exact (Device.signals_of_beside (Ev.beside_testEnd _)).trans Ev.signals_dueJob

theorem Ev.signals_judgeArmed {r : FieldRecord} {t : TransferParams} :
    (e.judgeArmed l i r t).dev.signals l = e.dev.signals l := by
  unfold Ev.judgeArmed
  dsimp only
  split
  · rw [Ev.signals_judgeRunning]
    split
    · exact (Ev.signals_modOp _).trans (Ev.signals_modOp _)
    · exact Ev.signals_modOp _
  · exact Ev.signals_modOp _

theorem Ev.signals_operationField {r : FieldRecord} :
    (e.operationField l i r).dev.signals l = e.dev.signals l := by
  unfold Ev.operationField
  split
  case h_7 => exact Ev.signals_judgeArmed
  case h_8 => exact Ev.signals_judgeRunning
  all_goals exact Device.signals_of_beside (by simp)

theorem Ev.signals_chainStep : (e.chainStep l).dev.signals l = e.dev.signals l := by
  unfold Ev.chainStep
  split
  · rfl
  · unfold Ev.repairField
    split
    · rfl
    · exact (Ev.signals_setChain _).trans (Ev.signals_modOp _)
  · unfold Ev.judgeLabel
    split
    · rfl
    · refine (Ev.signals_setChain _).trans (Device.signals_joinWindow.trans ((Ev.signals_modOp _).trans ?_))
      exact Device.signals_modLane (d := (e.modDev fun d => d.modRecord _ _).dev) (f := fun u => { u with decoder := _ }) rfl rfl
  · unfold Ev.monitorField
    split
    · rfl
    · refine (Device.signals_modLane rfl rfl).trans ?_
      exact (Device.signals_of_beside (Ev.beside_setMonitor (e := e.modDev fun d => d.modRecord _ _) _ _)).trans rfl
  · unfold Ev.takeField
    split
    · rfl
    · exact (Ev.signals_setChain _).trans (Ev.signals_operationField.trans
        ((Ev.signals_modOp _).trans Device.signals_readyWaiting))

theorem Ev.signals_finishChain : (e.finishChain l).dev.signals l = e.dev.signals l := by
  simp only [Ev.finishChain, Ev.signals_chainStep]

@[simp] theorem Ev.finishChain_ingest : ((e.finishChain l).dev.lane l).ingest = (e.dev.lane l).ingest :=
  congrArg Prod.snd Ev.signals_finishChain

@[simp] theorem Ev.finishChain_settings : ((e.finishChain l).dev.lane l).settings = (e.dev.lane l).settings :=
  congrArg Prod.fst Ev.signals_finishChain

/-- With no field in the chain there is nothing to finish. -/
theorem Ev.finishChain_of_none (h : (e.dev.lane l).chain = none) : e.finishChain l = e := by
  have h1 : e.chainStep l = e := by simp [Ev.chainStep, h]
  simp only [Ev.finishChain, h1]

/-! ## The close of a field (R8 to R10) -/

/-- The Ingest Lane of a LOCKED lane after a close (R10). -/
def IngestLane.afterLocked (g : IngestLane) (w : Bool) : IngestLane :=
  if w then { g with badRun := 0, goodRun := satAdd 65535 g.goodRun 1 }
  else if 2 ≤ g.badRun + 1 then { g with state := .seeking, goodRun := 0, badRun := 0 }
  else { g with goodRun := 0, badRun := g.badRun + 1 }

/-- The Ingest Lane of a SEEKING lane after a close (R9). -/
def IngestLane.afterSeeking (g : IngestLane) (lockIn : Nat) (w : Bool) : IngestLane :=
  if !w then { g with goodRun := 0 }
  else if lockIn ≤ g.goodRun + 1 then { g with state := .locked, goodRun := 0, badRun := 0 }
  else { g with goodRun := satAdd 65535 g.goodRun 1 }

@[simp] theorem Ev.modIngest_ingest (g : IngestLane → IngestLane) :
    ((e.modIngest l g).dev.lane l).ingest = g (e.dev.lane l).ingest := by simp [Ev.modIngest]

@[simp] theorem Ev.modIngest_settings (g : IngestLane → IngestLane) :
    ((e.modIngest l g).dev.lane l).settings = (e.dev.lane l).settings := by simp [Ev.modIngest]

@[simp] theorem Ev.setLaneState_ingest (x : LaneState) :
    ((e.setLaneState l x q).dev.lane l).ingest = { (e.dev.lane l).ingest with state := x, goodRun := 0, badRun := 0 } := by
  simp [Ev.setLaneState]

@[simp] theorem Ev.lockLoss_ingest {x : LaneState} {k : Option Nat} :
    ((e.lockLoss l x k).dev.lane l).ingest = (e.dev.lane l).ingest :=
  Device.ingest_of_beside (Ev.beside_lockLoss _ _) l

@[simp] theorem Ev.discontinuity_ingest : ((e.discontinuity l q).dev.lane l).ingest = (e.dev.lane l).ingest :=
  Device.ingest_of_beside (Ev.beside_discontinuity _) l

@[simp] theorem Ev.acquired_ingest : ((e.acquired l).dev.lane l).ingest = (e.dev.lane l).ingest :=
  Device.ingest_of_beside Ev.beside_acquired l

theorem Ev.lockedClose_ingest {w : Bool} {k : Option Nat} :
    ((e.lockedClose l w k q).dev.lane l).ingest = (e.dev.lane l).ingest.afterLocked w := by
  unfold Ev.lockedClose IngestLane.afterLocked
  split
  · simp
  split <;> simp

theorem Ev.seekingClose_ingest {w : Bool} :
    ((e.seekingClose l w q).dev.lane l).ingest =
      (e.dev.lane l).ingest.afterSeeking (e.dev.lane l).settings.lockIn w := by
  unfold Ev.seekingClose IngestLane.afterSeeking
  dsimp only
  split
  · simp
  split <;> simp

theorem IngestLane.afterLocked_lastStored (g : IngestLane) (w : Bool) (y : Option Nat) :
    ({ g with lastStored := y } : IngestLane).afterLocked w = { g.afterLocked w with lastStored := y } := by
  unfold IngestLane.afterLocked
  split
  · rfl
  split <;> rfl

theorem OpenField.wellFormed_of_same_parity {f : OpenField} {std : Standard} {prev : Option Parity}
    (h : prev = some f.parity) : f.wellFormed std prev = false := by simp [OpenField.wellFormed, h]

/-- The close in LOCKED: what becomes of the Ingest Lane but for the last stored sequence. -/
theorem Ev.closeLocked_ingest {f : OpenField} {prev : Option Parity} {wrap : Bool} :
    ∃ y, ((e.closeLocked l f prev wrap q).ev.dev.lane l).ingest =
      { (e.dev.lane l).ingest.afterLocked (f.wellFormed (e.dev.lane l).settings.standard prev) with lastStored := y } := by
  unfold Ev.closeLocked
  dsimp only
  split
  · exact ⟨_, by rw [Ev.lockedClose_ingest, Ev.discontinuity_ingest]⟩
  split
  · exact ⟨_, by
      rw [Ev.lockedClose_ingest, Ev.discontinuity_ingest, OpenField.wellFormed_of_same_parity ‹_›]; rfl⟩
  split
  · exact ⟨_, by rw [Ev.lockedClose_ingest]; rfl⟩
  · refine ⟨some f.sequence, ?_⟩
    rw [Ev.lockedClose_ingest, ← IngestLane.afterLocked_lastStored]
    simp [Ev.keepField, Ev.setChain, padField]

/-- The Ingest Lane after the close of its open field, the last stored sequence aside (R8 to R10). -/
def IngestLane.afterClose (g : IngestLane) (f : OpenField) (std : Standard) (lockIn : Nat) : IngestLane :=
  let g1 := { g with openField := none, prevParity := some f.parity }
  match g.state with
  | .locked => g1.afterLocked (f.wellFormed std g.prevParity)
  | .seeking => g1.afterSeeking lockIn (f.wellFormed std g.prevParity)
  | _ => g1

theorem IngestLane.exists_lastStored {g g' : IngestLane} (h : g = g') : ∃ y, g = { g' with lastStored := y } :=
  ⟨g'.lastStored, h⟩

/-- The close of the open field `f`, whose current line closes first. -/
theorem Ev.closeOpenField_ingest {f : OpenField} {w : Bool} (h : (e.dev.lane l).ingest.openField = some f) :
    ∃ y, ((e.closeOpenField l w q).ev.dev.lane l).ingest =
      { (e.dev.lane l).ingest.afterClose (closeLine (e.dev.lane l).settings.standard e.dev.dram f).1
          (e.dev.lane l).settings.standard (e.dev.lane l).settings.lockIn with lastStored := y } := by
  unfold Ev.closeOpenField IngestLane.afterClose
  simp only [h]
  cases hs : (e.dev.lane l).ingest.state with
  | locked =>
    obtain ⟨y, hy⟩ := Ev.closeLocked_ingest (e := (e.setDram _).modIngest l _) (l := l) (q := q) (f := _) (prev := _)
      (wrap := w)
    refine ⟨y, hy.trans ?_⟩
    simp only [Ev.modIngest_ingest, Ev.modIngest_settings, Ev.setDram_dev, Device.setDram_lane, hs]
  | seeking =>
    refine IngestLane.exists_lastStored ?_
    rw [Ev.seekingClose_ingest]
    simp only [Ev.modIngest_ingest, Ev.modIngest_settings, Ev.setDram_dev, Device.setDram_lane, hs]
  | noSignal => exact ⟨_, by rw [Ev.modIngest_ingest, Ev.setDram_dev, Device.setDram_lane, hs]⟩
  | off => exact ⟨_, by rw [Ev.modIngest_ingest, Ev.setDram_dev, Device.setDram_lane, hs]⟩

theorem Ev.closeOpenField_none {w : Bool} (h : (e.dev.lane l).ingest.openField = none) :
    e.closeOpenField l w q = ⟨e, []⟩ := by simp [Ev.closeOpenField, h]

end
end Sys2Proof.Machine

/-! SUPPORT. A field-start on an enabled lane: the opening of the new field, the re-entry at the top of the counter, and what
both leave of the Ingest Lane (R5, R6). -/
namespace Sys2Proof.Machine
section
variable {d : Device} {e : Ev} {l : Lane} {i : SlotId} {s : State} {q : Nat} {p : Parity} {b : Bool}

/-! ## The opening of a field (R5) -/

/-- The event in which the new field has been opened and reported, before the intake. -/
def Ev.openedField (e : Ev) (l : Lane) (q : Nat) (p : Parity) (b : Bool) : Ev :=
  (e.modIngest l fun g =>
    { g with sequence := q, openField := some (OpenField.start q p b), timer := true }).reportFieldStart l

theorem Ev.openedField_ingest : ((e.openedField l q p b).dev.lane l).ingest =
    { (e.dev.lane l).ingest with sequence := q, openField := some (OpenField.start q p b), timer := true } := by
  rw [Ev.openedField, Device.ingest_of_beside Ev.beside_reportFieldStart, Ev.modIngest_ingest]

theorem Ev.openNewField_of_locked (h : (e.dev.lane l).ingest.state = .locked) :
    e.openNewField l q p b = (e.openedField l q p b).intake l q p b :=
  if_pos (show ((e.openedField l q p b).dev.lane l).ingest.state = .locked by rw [Ev.openedField_ingest]; exact h)

theorem Ev.openNewField_of_not_locked (h : (e.dev.lane l).ingest.state ≠ .locked) :
    e.openNewField l q p b = e.openedField l q p b :=
  if_neg (show ¬((e.openedField l q p b).dev.lane l).ingest.state = .locked by rw [Ev.openedField_ingest]; exact h)

theorem Ev.openEpisode_ingest : ((e.openEpisode l q).dev.lane l).ingest = (e.dev.lane l).ingest := by
  unfold Ev.openEpisode
  split <;> simp

theorem Ev.dropField_ingest : ((e.dropField l q).dev.lane l).ingest = (e.dev.lane l).ingest := by
  rw [Ev.dropField, Ev.openEpisode_ingest, Device.ingest_of_beside Ev.beside_stopOnDrop, Ev.modOp_dev,
    Device.lane_modLane_self]

theorem Device.takeSlot_lane : (d.takeSlot l i q p b).lane l =
    { d.lane l with
      overrun := false
      ingest := { (d.lane l).ingest with
        openField := (d.lane l).ingest.openField.map fun f => { f with slot := some i } } } := by
  rw [Device.takeSlot, Device.lane_modLane_self]; rfl

/-- An intake gives the open field a slot or none. -/
theorem Ev.intake_ingest {f : OpenField} (h : (e.dev.lane l).ingest.openField = some f) (hf : f.slot = none) :
    ∃ x, ((e.intake l q p b).dev.lane l).ingest = { (e.dev.lane l).ingest with openField := some { f with slot := x } } := by
  unfold Ev.intake
  split
  · rename_i i _ _ _
    refine ⟨some i, ?_⟩
    rw [Ev.modDev_dev, Device.takeSlot_lane, h]; rfl
  · refine ⟨none, ?_⟩
    rw [Ev.dropField_ingest, ← hf, ← h]

/-- The Ingest Lane after the opening: the new field, with a slot or without, and the timer restarted. -/
theorem Ev.openNewField_ingest : ∃ x, ((e.openNewField l q p b).dev.lane l).ingest =
    { (e.dev.lane l).ingest with
      sequence := q, openField := some { OpenField.start q p b with slot := x }, timer := true } := by
  by_cases h : (e.dev.lane l).ingest.state = .locked
  · obtain ⟨x, hx⟩ := Ev.intake_ingest (e := e.openedField l q p b) (l := l) (q := q) (p := p) (b := b)
      (by rw [Ev.openedField_ingest]) rfl
    exact ⟨x, by rw [Ev.openNewField_of_locked h, hx, Ev.openedField_ingest]⟩
  · exact ⟨none, by rw [Ev.openNewField_of_not_locked h, Ev.openedField_ingest]; rfl⟩

/-! ## The field-start (R5, R6) -/

/-- The event after a closed field's slot is freed; a lane in NO_SIGNAL is SEEKING from here (R5). -/
def ClosedField.release (c : ClosedField) (l : Lane) (q : Nat) : Ev :=
  let e := c.ev.modDev fun d => d.giveBack [] c.freed
  if (e.dev.lane l).ingest.state = .noSignal then e.setLaneState l .seeking q else e

theorem ClosedField.release_ingest {c : ClosedField} : ((c.release l q).dev.lane l).ingest =
    if (c.ev.dev.lane l).ingest.state = .noSignal then
      { (c.ev.dev.lane l).ingest with state := .seeking, goodRun := 0, badRun := 0 }
    else (c.ev.dev.lane l).ingest := by
  unfold ClosedField.release
  simp only [Ev.modDev_dev, Device.giveBack_lane]
  split <;> simp

/-- Below the top of the sequence counter. -/
theorem Ev.fieldStartEnabled_of_not_top (h : (e.dev.lane l).ingest.sequence ≠ 4294967295) :
    e.fieldStartEnabled l p b =
      (((e.finishChain l).closeOpenField l false ((e.dev.lane l).ingest.sequence + 1)).release l
        ((e.dev.lane l).ingest.sequence + 1)).openNewField l ((e.dev.lane l).ingest.sequence + 1) p b := by
  unfold Ev.fieldStartEnabled
  simp only [Ev.finishChain_ingest, Config.max32, h, decide_false, Bool.false_eq_true, if_false]
  rfl

/-- At the top of the sequence counter. -/
theorem Ev.fieldStartEnabled_of_top (h : (e.dev.lane l).ingest.sequence = 4294967295) :
    e.fieldStartEnabled l p b =
      (((e.finishChain l).closeOpenField l true 1).ev.reenterLane l
        ((e.finishChain l).closeOpenField l true 1).freed).openNewField l 1 p b := by
  unfold Ev.fieldStartEnabled
  simp only [Ev.finishChain_ingest, Config.max32, h, decide_true, if_true]

theorem State.event_congr {f g : Ev → Ev} (h : f (Ev.start s.dev) = g (Ev.start s.dev)) : s.event f = s.event g := by
  rw [State.event, State.event, h]

theorem exec_fieldStart (h : (s.dev.lane l).ingest.state ≠ .off) :
    exec (.fieldStart l p b) s = .next (s.event fun e => e.fieldStartEnabled l p b) :=
  congrArg Host.Outcome.next (State.event_congr (if_neg h))

/-! ## What the field-start makes of the Ingest Lane -/

/-- The lane's state after a close, before the new field opens. -/
theorem IngestLane.afterClose_state (g : IngestLane) (f : OpenField) (std : Standard) (n : Nat) :
    (g.state = .off → (g.afterClose f std n).state = .off) ∧
      (g.state = .noSignal → (g.afterClose f std n).state = .noSignal) ∧
      (g.state = .seeking ∨ g.state = .locked →
        (g.afterClose f std n).state = .seeking ∨ (g.afterClose f std n).state = .locked) := by
  unfold IngestLane.afterClose
  refine ⟨fun h => by simp [h], fun h => by simp [h], fun h => ?_⟩
  rcases h with h | h <;> simp only [h]
  · unfold IngestLane.afterSeeking
    repeat' split
    all_goals simp
  · unfold IngestLane.afterLocked
    repeat' split
    all_goals simp

/-- The Ingest Lane of an enabled lane after its close. -/
theorem Ev.closeOpenField_state {w : Bool} :
    let x := (e.dev.lane l).ingest.state
    let y := ((e.closeOpenField l w q).ev.dev.lane l).ingest.state
    (x = .noSignal → y = .noSignal) ∧ (x = .seeking ∨ x = .locked → y = .seeking ∨ y = .locked) := by
  dsimp only
  cases hf : (e.dev.lane l).ingest.openField with
  | none => rw [Ev.closeOpenField_none hf]; exact ⟨id, id⟩
  | some f =>
    obtain ⟨y, hy⟩ := Ev.closeOpenField_ingest (q := q) (w := w) hf
    rw [hy]
    obtain ⟨-, h1, h2⟩ := IngestLane.afterClose_state (e.dev.lane l).ingest _ _ _
    exact ⟨h1, h2⟩

/-- The lane is SEEKING or LOCKED when the new field opens. -/
theorem Ev.release_state {w : Bool} (h : (e.dev.lane l).ingest.state ≠ .off) :
    (((e.closeOpenField l w q).release l q).dev.lane l).ingest.state = .seeking ∨
      (((e.closeOpenField l w q).release l q).dev.lane l).ingest.state = .locked := by
  obtain ⟨h1, h2⟩ := Ev.closeOpenField_state (e := e) (l := l) (q := q) (w := w)
  rw [ClosedField.release_ingest]
  cases hs : (e.dev.lane l).ingest.state with
  | off => exact absurd hs h
  | noSignal => rw [if_pos (h1 hs)]; exact .inl rfl
  | seeking =>
    have := h2 (.inl hs)
    rw [if_neg (by rcases this with h | h <;> simp [h])]; exact this
  | locked =>
    have := h2 (.inr hs)
    rw [if_neg (by rcases this with h | h <;> simp [h])]; exact this

/-- The re-entry's own part, before it reaches the operation (R6). -/
def Ev.reentered (e : Ev) (l : Lane) (freed : List SlotId) : Ev :=
  ((e.modLane l fun u => { u with window := [], overrun := false }).modDev fun d =>
    d.giveBack (e.dev.lane l).window freed).enableLane l 1

theorem Ev.reenterLane_eq {freed : List SlotId} : e.reenterLane l freed =
    if (e.dev.lane l).ingest.state = .locked then (e.reentered l freed).lockLoss l .seeking none
    else e.reentered l freed := rfl

theorem Ev.reentered_lane {freed : List SlotId} : (e.reentered l freed).dev.lane l =
    { e.dev.lane l with
      window := [], overrun := false, ingest := IngestLane.enabled, decoder := LabelDecoder.reset
      monitor := Monitor.reset } := by
  rw [Ev.reentered, Ev.enableLane_dev, Device.lane_modLane_self]
  simp

theorem Ev.reenterLane_beside {freed : List SlotId} :
    (e.reenterLane l freed).dev.beside = (e.reentered l freed).dev.beside := by
  rw [Ev.reenterLane_eq]
  split
  · exact Ev.beside_lockLoss _ _
  · rfl

theorem Ev.reenterLane_monitor {freed : List SlotId} :
    ((e.reenterLane l freed).dev.lane l).monitor = Monitor.reset := by
  rw [Ev.reenterLane_eq]
  split
  · rw [Ev.lockLoss_monitor, Ev.reentered_lane]
  · rw [Ev.reentered_lane]

theorem Ev.reenterLane_ingest {freed : List SlotId} :
    ((e.reenterLane l freed).dev.lane l).ingest = IngestLane.enabled := by
  rw [Device.ingest_of_beside Ev.reenterLane_beside, Ev.reentered_lane]

/-- Opening a field on a lane that is not LOCKED leaves the other blocks of the lane. -/
theorem Ev.openedField_beside : (e.openedField l q p b).dev.beside =
    (e.modIngest l fun g =>
      { g with sequence := q, openField := some (OpenField.start q p b), timer := true }).dev.beside :=
  Ev.beside_reportFieldStart

theorem Ev.reportFieldStart_monitor : ((e.reportFieldStart l).dev.lane l).monitor = (e.dev.lane l).monitor := by
  unfold Ev.reportFieldStart
  dsimp only
  split
  · split <;> simp
  · rfl

theorem Ev.openedField_monitor : ((e.openedField l q p b).dev.lane l).monitor = (e.dev.lane l).monitor := by
  rw [Ev.openedField, Ev.reportFieldStart_monitor]
  simp [Ev.modIngest]

/-- The lane after a field-start at the top of the counter: enabled anew, its window empty, the field of sequence 1 open. -/
theorem Ev.fieldStart_top_lane (h : (e.dev.lane l).ingest.sequence = 4294967295) :
    let u := (e.fieldStartEnabled l p b).dev.lane l
    u.ingest = { IngestLane.enabled with sequence := 1, openField := some (OpenField.start 1 p b) } ∧ u.window = [] ∧
      u.overrun = false ∧ u.decoder = LabelDecoder.reset ∧ u.monitor = Monitor.reset := by
  rw [Ev.fieldStartEnabled_of_top h, Ev.openNewField_of_not_locked (by rw [Ev.reenterLane_ingest]; decide)]
  generalize (e.finishChain l).closeOpenField l true 1 = c
  have hr := Ev.reenterLane_beside (e := c.ev) (l := l) (freed := c.freed)
  refine ⟨?_, ?_, ?_, ?_, ?_⟩
  · rw [Ev.openedField_ingest, Ev.reenterLane_ingest]; rfl
  · rw [Device.window_of_beside Ev.openedField_beside, Ev.modIngest, Ev.modLane_dev, Device.lane_modLane_self]
    exact (Device.window_of_beside hr l).trans (by rw [Ev.reentered_lane])
  · rw [Device.overrun_of_beside Ev.openedField_beside, Ev.modIngest, Ev.modLane_dev, Device.lane_modLane_self]
    exact (Device.overrun_of_beside hr l).trans (by rw [Ev.reentered_lane])
  · rw [Device.decoder_of_beside Ev.openedField_beside, Ev.modIngest, Ev.modLane_dev, Device.lane_modLane_self]
    exact (Device.decoder_of_beside hr l).trans (by rw [Ev.reentered_lane])
  · rw [Ev.openedField_monitor, Ev.reenterLane_monitor]

theorem State.event_ingest (s : State) (f : Ev → Ev) :
    ((s.event f).dev.lane l).ingest = ((f (Ev.start s.dev)).dev.lane l).ingest :=
  Device.ingest_of_beside (s.event_beside f) l

/-- Settles O7: the close, the re-entry and the opening of a field, each by its equation of the Ingest Lane. -/
theorem fieldStartOpensNextField : Obligations.FieldStartOpensNextField := by
  intro s l p h hon
  obtain ⟨hso, hhd, hst⟩ := Device.sameOutside_of_outside
    (event_outside (s := s) (l := l) (f := fun e => e.fieldStartEnabled l p h) fun _ => Ev.outside_fieldStartEnabled p h)
  have hb := s.event_beside fun e => e.fieldStartEnabled l p h
  have hm := s.event_monitor (fun e => e.fieldStartEnabled l p h) l
  have hpend := State.event_pending s fun e => e.fieldStartEnabled l p h
  refine ⟨_, { OpenField.start ((s.event fun e => e.fieldStartEnabled l p h).dev.lane l).ingest.sequence p h with
    slot := (((s.event fun e => e.fieldStartEnabled l p h).dev.lane l).ingest.openField.bind OpenField.slot) },
    exec_fieldStart hon, ?_⟩
  generalize (s.event fun e => e.fieldStartEnabled l p h) = t at *
  have hing := Device.ingest_of_beside hb l
  by_cases htop : (s.dev.lane l).ingest.sequence = 4294967295
  · obtain ⟨h1, h2, h3, h4, h5⟩ := Ev.fieldStart_top_lane (e := Ev.start s.dev) (p := p) (b := h) htop
    have hw := (Device.window_of_beside hb l).trans h2
    have ho := (Device.overrun_of_beside hb l).trans h3
    have hd := (Device.decoder_of_beside hb l).trans h4
    rw [h1] at hing
    rw [hing]
    exact ⟨rfl, rfl, rfl, rfl, rfl, rfl, rfl, rfl, rfl, rfl, .inl rfl, fun hx => absurd htop hx,
      fun _ => ⟨rfl, rfl, rfl, rfl, rfl, rfl, hw, ho, hd, hm.trans h5⟩, hso, hhd, hst, hpend⟩
  · have hfs := Ev.fieldStartEnabled_of_not_top (e := Ev.start s.dev) (l := l) (p := p) (b := h) htop
    have hstate := Ev.release_state (e := (Ev.start s.dev).finishChain l) (l := l) (w := false)
      (q := ((Ev.start s.dev).dev.lane l).ingest.sequence + 1) (by rw [Ev.finishChain_ingest]; exact hon)
    rw [hfs] at hing
    generalize ClosedField.release _ l _ = e at hstate hing
    obtain ⟨x, hx⟩ := Ev.openNewField_ingest (e := e) (l := l) (q := (s.dev.lane l).ingest.sequence + 1) (p := p) (b := h)
    replace hing := hing.trans hx
    rw [hing]
    exact ⟨rfl, rfl, rfl, rfl, rfl, rfl, rfl, rfl, rfl, rfl, hstate, fun _ => rfl, fun hx => absurd hx htop,
      hso, hhd, hst, hpend⟩

end
end Sys2Proof.Machine

/-! SUPPORT. What a field-start does to the operation: what of the close and the opening leaves it as it is, the lock that ends
an ACQUIRE, the lock loss, and the seeking count (R137, R138, R143, R144). -/
namespace Sys2Proof.Machine
section
variable {e e' : Ev} {l : Lane} {i : SlotId} {s : State} {q : Nat} {p : Parity} {b w : Bool} {n : Notice} {r : Nat}
  {f : OpenField} {prev : Option Parity} {kept : Option Nat} {c : ClosedField} {freed : List SlotId}

/-! ## What leaves the operation as it is -/

/-- Lane `l`'s operation and its completions as an event has them, and whether its transfer has drained. -/
def Ev.outlook (e : Ev) (l : Lane) : (Controller × List Notice) × Bool := (e.opView l, e.dev.drained l)

theorem Ev.outlook_of_lane (hl : e'.dev.lane l = e.dev.lane l) (he : e'.dev.engine = e.dev.engine)
    (hn : e'.notes = e.notes) : e'.outlook l = e.outlook l := by
  simp only [Ev.outlook, Ev.opView, Ev.notesOf, Device.drained, hl, he, hn]

theorem Ev.outlook_modLane {g : LaneUnit → LaneUnit} (ho : (g (e.dev.lane l)).op = (e.dev.lane l).op)
    (hc : (g (e.dev.lane l)).channel = (e.dev.lane l).channel) : (e.modLane l g).outlook l = e.outlook l :=
  Prod.ext (Ev.opView_modLane (by rw [ho])) (Device.drained_congr (by simp [ho]) rfl (by simp [hc]) (by simp [ho]))

theorem Ev.outlook_of_beside (hb : e'.dev.beside = e.dev.beside) (hv : e'.opView l = e.opView l) :
    e'.outlook l = e.outlook l := Prod.ext hv (Ev.drained_of_beside hb hv)

theorem Ev.outlook_note (h : n.rank ≠ 3) : (e.note n).outlook l = e.outlook l := Prod.ext (Ev.opView_note h) rfl

@[simp] theorem Ev.outlook_modIngest {g : IngestLane → IngestLane} : (e.modIngest l g).outlook l = e.outlook l :=
  Ev.outlook_modLane rfl rfl
@[simp] theorem Ev.outlook_setChain {x : Option ChainField} : (e.setChain l x).outlook l = e.outlook l :=
  Ev.outlook_modLane rfl rfl
@[simp] theorem Ev.outlook_setDram {x : Dram} : (e.setDram x).outlook l = e.outlook l := Ev.outlook_of_lane rfl rfl rfl
@[simp] theorem Ev.outlook_modRecord {x : FieldRecord → FieldRecord} :
    (e.modDev fun d => d.modRecord i x).outlook l = e.outlook l := Ev.outlook_of_lane rfl rfl rfl
@[simp] theorem Ev.outlook_giveBack {x y : List SlotId} : (e.modDev fun d => d.giveBack x y).outlook l = e.outlook l :=
  Ev.outlook_of_lane (by simp) (by simp) rfl
@[simp] theorem Ev.outlook_setLaneState {x : LaneState} : (e.setLaneState l x q).outlook l = e.outlook l := by
  rw [Ev.setLaneState, Ev.outlook_note (by simp [Notice.rank]), Ev.outlook_modIngest]
@[simp] theorem Ev.outlook_setMonitor {x : Monitor} : (e.setMonitor l x q).outlook l = e.outlook l :=
  Ev.outlook_of_beside (by simp) (by simp)
@[simp] theorem Ev.outlook_discontinuity : (e.discontinuity l q).outlook l = e.outlook l :=
  Ev.outlook_of_beside (by simp) (by simp)
@[simp] theorem Ev.outlook_keepField : (e.keepField l i f).outlook l = e.outlook l := by simp [Ev.keepField]

/-- A lock loss seen from a moment with the same outlook. -/
theorem Ev.LostLock.of_outlook {e₀ : Ev} {new : LaneState} (h : e.LostLock e' l new)
    (ho : e.outlook l = e₀.outlook l) : e₀.LostLock e' l new :=
  h.eq_trans (congrArg Prod.fst ho) (congrArg Prod.snd ho)

/-- The release of a closed field's slot leaves the operation as it is. -/
@[simp] theorem ClosedField.release_outlook : (c.release l q).outlook l = c.ev.outlook l := by
  unfold ClosedField.release
  dsimp only
  split <;> simp

theorem ClosedField.release_opView : (c.release l q).opView l = c.ev.opView l :=
  congrArg Prod.fst ClosedField.release_outlook

/-- Of the lane's other blocks it leaves the controller and the settings. -/
theorem ClosedField.release_quiet : ((c.release l q).dev.lane l).op = (c.ev.dev.lane l).op ∧
    (c.release l q).notesOf 3 = c.ev.notesOf 3 ∧
    ((c.release l q).dev.lane l).settings = (c.ev.dev.lane l).settings := by
  unfold ClosedField.release
  dsimp only
  split <;> simp [Ev.setLaneState, Ev.modIngest, Notice.rank]

@[simp] theorem Ev.outlook_reentered : (e.reentered l freed).outlook l = e.outlook l := by
  rw [Ev.reentered, Ev.enableLane, Ev.outlook_note (by simp [Notice.rank]), Ev.resetLaneBlocks, Ev.outlook_setMonitor,
    Ev.outlook_modLane (by simp) (by simp), Ev.outlook_modIngest, Ev.outlook_giveBack, Ev.outlook_modLane (by simp) (by simp)]

theorem Ev.opView_reentered : (e.reentered l freed).opView l = e.opView l := congrArg Prod.fst Ev.outlook_reentered

/-! ## The close and the operation -/

/-- A lane that stays LOCKED at a close keeps its operation. -/
theorem Ev.lockedClose_outlook (h : ((e.lockedClose l w kept q).dev.lane l).ingest.state = .locked) :
    (e.lockedClose l w kept q).outlook l = e.outlook l := by
  unfold Ev.lockedClose at h ⊢
  split
  · simp
  split
  · simp_all
  · simp

/-- A lane that is no longer LOCKED after a close has lost its lock. -/
theorem Ev.lockedClose_lostLock (hl : (e.dev.lane l).ingest.state = .locked)
    (h : ((e.lockedClose l w kept q).dev.lane l).ingest.state ≠ .locked) :
    e.LostLock (e.lockedClose l w kept q) l .seeking := by
  unfold Ev.lockedClose at h ⊢
  split
  · simp_all
  split
  · exact Ev.lockLoss_lostLock.of_outlook (by simp)
  · simp_all

/-- The event in which the missing lines of a field in slot `i` have been written (R11). -/
def Ev.padded (e : Ev) (l : Lane) (i : SlotId) (f : OpenField) : Ev :=
  e.setDram (padField (e.dev.lane l).settings.standard i e.dev.dram f).2

/-- The close in LOCKED of a field that was dropped (R40). -/
theorem Ev.closeLocked_dropped (hs : f.slot = none) : e.closeLocked l f prev w q =
    ⟨(e.discontinuity l f.sequence).lockedClose l (f.wellFormed (e.dev.lane l).settings.standard prev) none q, []⟩ := by
  simp only [Ev.closeLocked, hs]

/-- The close in LOCKED of a field that is discarded (R41). -/
theorem Ev.closeLocked_discarded (hs : f.slot = some i) (hp : prev = some f.parity) : e.closeLocked l f prev w q =
    ⟨((e.padded l i f).discontinuity l f.sequence).lockedClose l false none q, [i]⟩ := by
  simp only [Ev.closeLocked, hs, if_pos hp]; rfl

/-- The close in LOCKED of a field that the top of the counter abandons (R6). -/
theorem Ev.closeLocked_abandoned (hs : f.slot = some i) (hp : prev ≠ some f.parity) : e.closeLocked l f prev true q =
    ⟨(e.padded l i f).lockedClose l (f.wellFormed (e.dev.lane l).settings.standard prev) none q, [i]⟩ := by
  simp only [Ev.closeLocked, hs, if_neg hp]; rfl

/-- The close in LOCKED of a field that is kept (R13). -/
theorem Ev.closeLocked_kept (hs : f.slot = some i) (hp : prev ≠ some f.parity) : e.closeLocked l f prev false q =
    ⟨((e.padded l i f).keepField l i (padField (e.dev.lane l).settings.standard i e.dev.dram f).1).lockedClose l
      (f.wellFormed (e.dev.lane l).settings.standard prev) (some f.sequence) q, []⟩ := by
  simp only [Ev.closeLocked, hs, if_neg hp]; rfl

@[simp] theorem Ev.padded_ingest : ((e.padded l i f).dev.lane l).ingest = (e.dev.lane l).ingest := rfl
@[simp] theorem Ev.outlook_padded : (e.padded l i f).outlook l = e.outlook l := Ev.outlook_setDram

theorem Ev.keepField_ingest : ((e.keepField l i f).dev.lane l).ingest =
    { (e.dev.lane l).ingest with lastStored := some f.sequence } := by
  simp [Ev.keepField, Ev.setChain]

/-- The close in LOCKED: a close of the lane's run after work that leaves the operation as it is. -/
theorem Ev.closeLocked_eq (hl : (e.dev.lane l).ingest.state = .locked) : ∃ (e₁ : Ev) (w' : Bool) (k : Option Nat),
    (e.closeLocked l f prev w q).ev = e₁.lockedClose l w' k q ∧ e₁.outlook l = e.outlook l ∧
      (e₁.dev.lane l).ingest.state = .locked := by
  have ev {c : ClosedField} {e₁ : Ev} {g : List SlotId} (h : c = ⟨e₁, g⟩) : c.ev = e₁ := congrArg ClosedField.ev h
  cases hs : f.slot with
  | none =>
    exact ⟨_, _, _, ev (Ev.closeLocked_dropped hs), Ev.outlook_discontinuity, by rw [Ev.discontinuity_ingest, hl]⟩
  | some i =>
    by_cases hp : prev = some f.parity
    · exact ⟨_, _, _, ev (Ev.closeLocked_discarded hs hp), by rw [Ev.outlook_discontinuity, Ev.outlook_padded],
        by rw [Ev.discontinuity_ingest, Ev.padded_ingest, hl]⟩
    cases w
    · exact ⟨_, _, _, ev (Ev.closeLocked_kept hs hp), by rw [Ev.outlook_keepField, Ev.outlook_padded],
        by rw [Ev.keepField_ingest, Ev.padded_ingest, hl]⟩
    · exact ⟨_, _, _, ev (Ev.closeLocked_abandoned hs hp), Ev.outlook_padded, by rw [Ev.padded_ingest, hl]⟩

theorem Ev.closeOpenField_of_locked (hl : (e.dev.lane l).ingest.state = .locked)
    (hf : (e.dev.lane l).ingest.openField = some f) : ∃ e₁ : Ev,
    e.closeOpenField l w q =
        e₁.closeLocked l (closeLine (e.dev.lane l).settings.standard e.dev.dram f).1 (e.dev.lane l).ingest.prevParity w q ∧
      e₁.outlook l = e.outlook l ∧ (e₁.dev.lane l).ingest.state = .locked := by
  unfold Ev.closeOpenField
  simp only [hf, hl]
  exact ⟨_, rfl, by simp, by simp [hl]⟩

/-- The close of a LOCKED lane's field: the operation is as before, or the lock is lost. -/
theorem Ev.closeOpenField_locked_op (hl : (e.dev.lane l).ingest.state = .locked) :
    ((((e.closeOpenField l w q).ev.dev.lane l).ingest.state = .locked →
        (e.closeOpenField l w q).ev.outlook l = e.outlook l) ∧
      (((e.closeOpenField l w q).ev.dev.lane l).ingest.state ≠ .locked →
        e.LostLock (e.closeOpenField l w q).ev l .seeking)) := by
  cases hf : (e.dev.lane l).ingest.openField with
  | none => rw [Ev.closeOpenField_none hf]; exact ⟨fun _ => rfl, fun h => absurd hl h⟩
  | some f =>
    obtain ⟨e₁, h1, ho₁, hl₁⟩ := Ev.closeOpenField_of_locked (w := w) (q := q) hl hf
    obtain ⟨e₂, w', k, h2, ho₂, hl₂⟩ := Ev.closeLocked_eq (f := (closeLine _ _ f).1) (prev := _) (w := w) (q := q) hl₁
    rw [h1, h2]
    exact ⟨fun h => (Ev.lockedClose_outlook h).trans (ho₂.trans ho₁),
      fun h => (Ev.lockedClose_lostLock hl₂ h).of_outlook (ho₂.trans ho₁)⟩

/-- The close in SEEKING: a seeking lane's run after work that leaves the controllers alone. -/
theorem Ev.closeOpenField_of_seeking (hs : (e.dev.lane l).ingest.state = .seeking)
    (hf : (e.dev.lane l).ingest.openField = some f) : ∃ (e₁ : Ev) (w' : Bool),
    e.closeOpenField l w q = ⟨e₁.seekingClose l w' q, []⟩ ∧ (e₁.dev.lane l).op = (e.dev.lane l).op ∧
      e₁.notesOf 3 = e.notesOf 3 ∧ (e₁.dev.lane l).settings = (e.dev.lane l).settings ∧
      (e₁.dev.lane l).ingest.state = .seeking := by
  unfold Ev.closeOpenField
  simp only [hf, hs]
  exact ⟨_, _, rfl, by simp [Ev.modIngest], by simp, by simp, by simp [hs]⟩

/-- A seeking lane's run leaves the controllers alone, but for the ACQUIRE that a lock ends (R9, R137). -/
theorem Ev.seekingClose_op (hs : (e.dev.lane l).ingest.state = .seeking) :
    (((e.seekingClose l w q).dev.lane l).ingest.state ≠ .locked →
      ((e.seekingClose l w q).dev.lane l).op = (e.dev.lane l).op ∧ (e.seekingClose l w q).notesOf 3 = e.notesOf 3 ∧
        ((e.seekingClose l w q).dev.lane l).settings = (e.dev.lane l).settings) ∧
    (((e.seekingClose l w q).dev.lane l).ingest.state = .locked →
      e.seekingClose l w q = (e.setLaneState l .locked q).acquired l) := by
  unfold Ev.seekingClose
  dsimp only
  split
  · simp [Ev.modIngest, hs]
  split
  · simp
  · simp [Ev.modIngest, hs]

/-- In SEEKING and NO_SIGNAL a close that does not lock the lane leaves the operation as it is. -/
theorem Ev.closeOpenField_quiet (hs : (e.dev.lane l).ingest.state = .seeking ∨ (e.dev.lane l).ingest.state = .noSignal)
    (ht : ((e.closeOpenField l w q).ev.dev.lane l).ingest.state ≠ .locked) :
    ((e.closeOpenField l w q).ev.dev.lane l).op = (e.dev.lane l).op ∧
      (e.closeOpenField l w q).ev.notesOf 3 = e.notesOf 3 ∧
      ((e.closeOpenField l w q).ev.dev.lane l).settings = (e.dev.lane l).settings := by
  cases hf : (e.dev.lane l).ingest.openField with
  | none => rw [Ev.closeOpenField_none hf]; exact ⟨rfl, rfl, rfl⟩
  | some f =>
    rcases hs with hs | hs
    · obtain ⟨e₁, w', h1, ho, hn, hset, hs₁⟩ := Ev.closeOpenField_of_seeking (w := w) (q := q) hs hf
      rw [h1] at ht ⊢
      obtain ⟨h2, h3, h4⟩ := (Ev.seekingClose_op hs₁).1 ht
      exact ⟨h2.trans ho, h3.trans hn, h4.trans hset⟩
    · simp [Ev.closeOpenField, hf, hs, Ev.modIngest]

theorem Ev.opView_acquired {x : Nat} (h : (e.dev.lane l).op.state = .acquiring x) :
    (e.acquired l).opView l = endedView (e.opView l) l .normal none .nothing := by
  rw [Ev.acquired, h, Ev.opView_endNow]

/-- In SEEKING a close that locks the lane ends an ACQUIRE NORMAL (R137). -/
theorem Ev.closeOpenField_acquired {x : Nat} (hs : (e.dev.lane l).ingest.state = .seeking)
    (ho : (e.dev.lane l).op.state = .acquiring x)
    (ht : ((e.closeOpenField l w q).ev.dev.lane l).ingest.state = .locked) :
    (e.closeOpenField l w q).ev.opView l = endedView (e.opView l) l .normal none .nothing := by
  cases hf : (e.dev.lane l).ingest.openField with
  | none => rw [Ev.closeOpenField_none hf, hs] at ht; cases ht
  | some f =>
    obtain ⟨e₁, w', h1, ho₁, hn, -, hs₁⟩ := Ev.closeOpenField_of_seeking (w := w) (q := q) hs hf
    have hv : (e₁.setLaneState l .locked q).opView l = e.opView l :=
      Ev.opView_setLaneState.trans (Ev.opView_ext (by rw [ho₁]) hn)
    rw [h1] at ht ⊢
    rw [(Ev.seekingClose_op hs₁).2 ht, Ev.opView_acquired ((congrArg (fun v => v.1.state) hv).trans ho), hv]

/-! ## The opening and the operation -/

theorem Ev.reportFieldStart_eq (h : (∀ x, (e.dev.lane l).op.state ≠ .acquiring x) ∨ (e.dev.lane l).ingest.state ≠ .seeking) :
    e.reportFieldStart l = e := by
  unfold Ev.reportFieldStart
  dsimp only
  split
  · rcases h with h | h
    · exact absurd ‹_› (h _)
    · exact absurd ‹_› h
  · rfl

/-- The opening leaves an operation that is not an ACQUIRE seeking its lock. -/
theorem Ev.openedField_outlook
    (h : (∀ x, (e.dev.lane l).op.state ≠ .acquiring x) ∨ (e.dev.lane l).ingest.state ≠ .seeking) :
    (e.openedField l q p b).outlook l = e.outlook l := by
  rw [Ev.openedField, Ev.reportFieldStart_eq (by simpa [Ev.modIngest] using h), Ev.outlook_modIngest]

theorem Controller.drop_of_idle {op : Controller} (h : op.state = .idle) : op.drop = op := by
  simp [Controller.drop, Controller.observe, Controller.count, h, OpState.isIdle]

/-- An intake does not reach an operation that has ended. -/
theorem Ev.intake_opView_of_idle (h : (e.dev.lane l).op.state = .idle) : (e.intake l q p b).opView l = e.opView l := by
  unfold Ev.intake
  split
  · exact Ev.opView_ext (by rw [Ev.modDev_dev, Device.takeSlot_lane]) rfl
  · have hd : (e.modOp l Controller.drop).opView l = e.opView l :=
      Ev.opView_modLane (congrArg Controller.sansJobs (Controller.drop_of_idle h))
    have hs : ((e.modOp l Controller.drop).dev.lane l).op.state = .idle := by simp [h]
    rw [Ev.dropField, Ev.stopOnDrop, hs, ← hd]
    unfold Ev.openEpisode
    dsimp only
    split
    · rfl
    · rw [Ev.opView_note (by simp [Notice.rank])]
      exact Ev.opView_modLane rfl

/-- The opening of a field does not reach an operation that has ended. -/
theorem Ev.openNewField_opView_of_idle (h : (e.dev.lane l).op.state = .idle) :
    (e.openNewField l q p b).opView l = e.opView l := by
  have hv : (e.openedField l q p b).opView l = e.opView l :=
    congrArg Prod.fst (Ev.openedField_outlook (.inl fun x => by simp [h]))
  by_cases hl : (e.dev.lane l).ingest.state = .locked
  · rw [Ev.openNewField_of_locked hl, Ev.intake_opView_of_idle, hv]
    exact (congrArg (fun v => v.1.state) hv).trans h
  · rw [Ev.openNewField_of_not_locked hl, hv]

/-- A lock loss is not undone by the opening of the new field. -/
theorem Ev.LostLock.openedField {new : LaneState} (h : e.LostLock e' l new) :
    e.LostLock (e'.openedField l q p b) l new := by
  have keep {x : OpState} (hx : (e'.dev.lane l).op.state = x) (hn : ∀ k, x ≠ .acquiring k) :
      (e'.openedField l q p b).opView l = e'.opView l :=
    congrArg Prod.fst (Ev.openedField_outlook (.inl fun k => hx ▸ hn k))
  refine ⟨fun hk => ?_, fun t hk => ?_, fun t hk => ?_⟩
  · have hv := h.ended hk
    rw [keep (congrArg (fun v => v.1.state) hv) (fun k => by simp [endedView, Controller.ended]), hv]
  · have hv := h.running t hk
    rw [← hv]
    refine keep (congrArg (fun v => v.1.state) hv) fun k => ?_
    split <;> simp [endedView, Controller.ended, Controller.drain]
  · have hv := h.draining t hk
    rw [← hv]
    exact keep (congrArg (fun v => v.1.state) hv) fun k => by simp [Ev.opView, Controller.sansJobs, hk]

end
end Sys2Proof.Machine

/-! SUPPORT. A field-start and the lock: the Ingest Lane after it, and what the operation sees of it (R8 to R10, R137, R138, R143,
R144). -/
namespace Sys2Proof.Machine
section
variable {e e' : Ev} {l : Lane} {i : SlotId} {s : State} {q : Nat} {p : Parity} {b w : Bool} {f : OpenField}
  {prev : Option Parity} {std : Standard} {m : Dram} {g : IngestLane} {lockIn : Nat}

/-! ## The lock -/

/-- R8's conditions, of the field as it stands before its current line closes. -/
theorem closeLine_wellFormed : (closeLine std m f).1.wellFormed std prev = true ↔
    f.lines = std.lines ∧ f.malformed = false ∧ (f.lineOpen = true → 1440 ≤ f.words) ∧ prev ≠ some f.parity := by
  cases h : f.lineOpen <;> simp [OpenField.wellFormed, h, and_assoc]

theorem IngestLane.afterClose_prevParity : (g.afterClose f std lockIn).prevParity = some f.parity := by
  unfold IngestLane.afterClose IngestLane.afterLocked IngestLane.afterSeeking
  dsimp only
  repeat' split
  all_goals rfl

/-- A SEEKING lane's runs and state after a close (R9). -/
theorem IngestLane.afterClose_seeking (hs : g.state = .seeking) (hw : f.wellFormed std g.prevParity = w) :
    (w = true → lockIn ≤ g.goodRun + 1 → (g.afterClose f std lockIn).state = .locked ∧
      (g.afterClose f std lockIn).goodRun = 0 ∧ (g.afterClose f std lockIn).badRun = 0) ∧
    (w = true → g.goodRun + 1 < lockIn → (g.afterClose f std lockIn).state = .seeking ∧
      (g.afterClose f std lockIn).goodRun = min 65535 (g.goodRun + 1)) ∧
    (w = false → (g.afterClose f std lockIn).state = .seeking ∧ (g.afterClose f std lockIn).goodRun = 0) := by
  simp only [IngestLane.afterClose, hs, hw]
  refine ⟨fun h hk => ?_, fun h hk => ?_, fun h => ?_⟩ <;> subst h
  · simp [IngestLane.afterSeeking, hk]
  · simp [IngestLane.afterSeeking, Nat.not_le.2 hk, satAdd]
  · simp [IngestLane.afterSeeking]

/-- A LOCKED lane's runs and state after a close (R10). -/
theorem IngestLane.afterClose_locked (hs : g.state = .locked) (hw : f.wellFormed std g.prevParity = w) :
    (w = true → (g.afterClose f std lockIn).state = .locked ∧ (g.afterClose f std lockIn).badRun = 0 ∧
      (g.afterClose f std lockIn).goodRun = min 65535 (g.goodRun + 1)) ∧
    (w = false → g.badRun + 1 < 2 → (g.afterClose f std lockIn).state = .locked ∧
      (g.afterClose f std lockIn).goodRun = 0 ∧ (g.afterClose f std lockIn).badRun = g.badRun + 1) ∧
    (w = false → 2 ≤ g.badRun + 1 → (g.afterClose f std lockIn).state = .seeking ∧
      (g.afterClose f std lockIn).goodRun = 0 ∧ (g.afterClose f std lockIn).badRun = 0) := by
  simp only [IngestLane.afterClose, hs, hw]
  refine ⟨fun h => ?_, fun h hk => ?_, fun h hk => ?_⟩ <;> subst h
  · simp [IngestLane.afterLocked, satAdd]
  · simp [IngestLane.afterLocked, Nat.not_le.2 hk]
  · simp [IngestLane.afterLocked, hk]

/-- The Ingest Lane after a field-start that closes the field `f` below the top of the counter. -/
theorem Ev.fieldStart_ingest (htop : (e.dev.lane l).ingest.sequence ≠ 4294967295)
    (hf : (e.dev.lane l).ingest.openField = some f)
    (hs : (e.dev.lane l).ingest.state = .seeking ∨ (e.dev.lane l).ingest.state = .locked) :
    ∃ y x, ((e.fieldStartEnabled l p b).dev.lane l).ingest =
      { (e.dev.lane l).ingest.afterClose
          (closeLine (e.dev.lane l).settings.standard (e.finishChain l).dev.dram f).1
          (e.dev.lane l).settings.standard (e.dev.lane l).settings.lockIn with
        lastStored := y, sequence := (e.dev.lane l).ingest.sequence + 1, openField := x, timer := true } := by
  rw [Ev.fieldStartEnabled_of_not_top htop]
  generalize hq : (e.dev.lane l).ingest.sequence + 1 = q
  obtain ⟨y, hy⟩ := Ev.closeOpenField_ingest (e := e.finishChain l) (l := l) (q := q) (w := false)
    (by rw [Ev.finishChain_ingest]; exact hf)
  have hst := (Ev.closeOpenField_state (e := e.finishChain l) (l := l) (q := q) (w := false)).2
    (by rw [Ev.finishChain_ingest]; exact hs)
  obtain ⟨x, hx⟩ := Ev.openNewField_ingest (l := l) (q := q) (p := p) (b := b)
    (e := ((e.finishChain l).closeOpenField l false q).release l q)
  refine ⟨y, some { OpenField.start q p b with slot := x }, hx.trans ?_⟩
  rw [ClosedField.release_ingest, if_neg (by rcases hst with h | h <;> simp [h]), hy, Ev.finishChain_ingest,
    Ev.finishChain_settings]

/-! ## The operation -/

variable {x : Nat}

/-- At the top of the counter the lane is SEEKING. -/
theorem Ev.fieldStart_top_state (h : (e.dev.lane l).ingest.sequence = 4294967295) :
    ((e.fieldStartEnabled l p b).dev.lane l).ingest.state = .seeking :=
  congrArg IngestLane.state (Ev.fieldStart_top_lane h).1

/-- A lock loss in a field-start reaches the operation as such (R143, R144). -/
theorem Ev.fieldStart_lostLock (hc : (e.dev.lane l).chain = none) (hs : (e.dev.lane l).ingest.state = .locked)
    (ht : ((e.fieldStartEnabled l p b).dev.lane l).ingest.state ≠ .locked) :
    e.LostLock (e.fieldStartEnabled l p b) l .seeking := by
  have hfin := Ev.finishChain_of_none hc
  by_cases htop : (e.dev.lane l).ingest.sequence = 4294967295
  · have hfs := Ev.fieldStartEnabled_of_top (p := p) (b := b) htop
    rw [hfin, Ev.openNewField_of_not_locked (by rw [Ev.reenterLane_ingest]; decide)] at hfs
    rw [hfs]
    obtain ⟨h1, h2⟩ := Ev.closeOpenField_locked_op (q := 1) (w := true) hs
    refine Ev.LostLock.openedField ?_
    rw [Ev.reenterLane_eq]
    split
    · exact Ev.lockLoss_lostLock.of_outlook (Ev.outlook_reentered.trans (h1 ‹_›))
    · exact (h2 ‹_›).trans_eq Ev.opView_reentered
  · rw [Ev.fieldStartEnabled_of_not_top htop, hfin] at ht ⊢
    generalize (e.dev.lane l).ingest.sequence + 1 = q at ht ⊢
    obtain ⟨-, h2⟩ := Ev.closeOpenField_locked_op (q := q) (w := false) hs
    have hst := (Ev.closeOpenField_state (q := q) (w := false)).2 (.inr hs)
    have hrel : (((e.closeOpenField l false q).release l q).dev.lane l).ingest.state ≠ .locked := by
      obtain ⟨z, hz⟩ := Ev.openNewField_ingest (e := (e.closeOpenField l false q).release l q) (l := l) (q := q)
        (p := p) (b := b)
      rw [hz] at ht
      exact ht
    rw [Ev.openNewField_of_not_locked hrel]
    rw [ClosedField.release_ingest, if_neg (by rcases hst with h | h <;> simp [h])] at hrel
    exact ((h2 hrel).trans_eq ClosedField.release_opView).openedField

/-- What the opening leaves of the lane's state. -/
theorem Ev.openNewField_state : ((e.openNewField l q p b).dev.lane l).ingest.state = (e.dev.lane l).ingest.state := by
  obtain ⟨z, hz⟩ := Ev.openNewField_ingest (e := e) (l := l) (q := q) (p := p) (b := b)
  rw [hz]

/-- A field-start that locks the lane ends an ACQUIRE NORMAL (R137). -/
theorem Ev.fieldStart_acquired (hc : (e.dev.lane l).chain = none) (hs : (e.dev.lane l).ingest.state = .seeking)
    (ho : (e.dev.lane l).op.state = .acquiring x)
    (ht : ((e.fieldStartEnabled l p b).dev.lane l).ingest.state = .locked) :
    (e.fieldStartEnabled l p b).opView l = endedView (e.opView l) l .normal none .nothing := by
  have htop : (e.dev.lane l).ingest.sequence ≠ 4294967295 := fun h =>
    absurd (ht.symm.trans (Ev.fieldStart_top_state h)) (by decide)
  rw [Ev.fieldStartEnabled_of_not_top htop, Ev.finishChain_of_none hc] at ht ⊢
  generalize (e.dev.lane l).ingest.sequence + 1 = q at ht ⊢
  have hst := (Ev.closeOpenField_state (q := q) (w := false)).2 (.inl hs)
  rw [Ev.openNewField_state, ClosedField.release_ingest, if_neg (by rcases hst with h | h <;> simp [h])] at ht
  have hv : ((e.closeOpenField l false q).release l q).opView l = endedView (e.opView l) l .normal none .nothing :=
    ClosedField.release_opView.trans (Ev.closeOpenField_acquired hs ho ht)
  generalize (e.closeOpenField l false q).release l q = e₁ at hv
  have hidle : (e₁.dev.lane l).op.state = .idle := congrArg (fun v => v.1.state) hv
  rw [Ev.openNewField_opView_of_idle hidle, hv]

/-- In ACQUIRING a field-start that leaves the lane SEEKING is counted, and ends the operation at the lock limit
(R138). -/
theorem Ev.reportFieldStart_of_acquiring (ho : (e.dev.lane l).op.state = .acquiring x)
    (hs : (e.dev.lane l).ingest.state = .seeking) : e.reportFieldStart l =
      if (e.dev.lane l).settings.lockLimit ≤ (e.dev.lane l).op.seekingCount + 1 then
        (e.modOp l fun op => { op with seekingCount := op.seekingCount + 1 }).endNow l .abnormal (some .lockFailed) .nothing
      else e.modOp l fun op => { op with seekingCount := op.seekingCount + 1 } := by
  simp only [Ev.reportFieldStart, ho, hs]

end
end Sys2Proof.Machine

/-! SUPPORT. The seeking count of an ACQUIRE (R138), and the close of a field as the machine shows it. -/
namespace Sys2Proof.Machine
section
variable {e : Ev} {l : Lane} {s : State} {q : Nat} {p : Parity} {b : Bool} {x : Nat} {op : Controller}

/-- One field-start more that left the lane SEEKING. -/
def Controller.countSeeking (op : Controller) : Controller := { op with seekingCount := op.seekingCount + 1 }

/-- The opening on a SEEKING lane in ACQUIRING: the field-start is counted, and ends the operation at the lock limit
(R138). -/
theorem Ev.openNewField_acquiring (ho : (e.dev.lane l).op.state = .acquiring x)
    (hs : (e.dev.lane l).ingest.state = .seeking) :
    ((e.dev.lane l).op.seekingCount + 1 < (e.dev.lane l).settings.lockLimit →
      ((e.openNewField l q p b).dev.lane l).op = (e.dev.lane l).op.countSeeking ∧
        (e.openNewField l q p b).notesOf 3 = e.notesOf 3) ∧
    ((e.dev.lane l).settings.lockLimit ≤ (e.dev.lane l).op.seekingCount + 1 →
      (e.openNewField l q p b).opView l =
        endedView ((e.dev.lane l).op.countSeeking.sansJobs, e.notesOf 3) l .abnormal (some .lockFailed) .nothing) := by
  rw [Ev.openNewField_of_not_locked (by simp [hs]), Ev.openedField,
    Ev.reportFieldStart_of_acquiring (x := x) (by simpa [Ev.modIngest] using ho) (by simpa using hs)]
  refine ⟨fun h => ?_, fun h => ?_⟩
  · rw [if_neg (by simpa [Ev.modIngest] using h)]
    simp [Ev.modIngest, Controller.countSeeking]
  · rw [if_pos (by simpa [Ev.modIngest] using h), Ev.opView_endNow]
    congr 1
    simp [Ev.opView, Ev.modIngest, Controller.countSeeking]

/-- In ACQUIRING a field-start that leaves the lane SEEKING (R138). -/
theorem Ev.fieldStart_acquiring (hc : (e.dev.lane l).chain = none) (ho : (e.dev.lane l).op.state = .acquiring x)
    (hs : (e.dev.lane l).ingest.state = .seeking ∨ (e.dev.lane l).ingest.state = .noSignal)
    (htop : (e.dev.lane l).ingest.sequence ≠ 4294967295)
    (ht : ((e.fieldStartEnabled l p b).dev.lane l).ingest.state = .seeking) :
    ((e.dev.lane l).op.seekingCount + 1 < (e.dev.lane l).settings.lockLimit →
      ((e.fieldStartEnabled l p b).dev.lane l).op = (e.dev.lane l).op.countSeeking ∧
        (e.fieldStartEnabled l p b).notesOf 3 = e.notesOf 3) ∧
    ((e.dev.lane l).settings.lockLimit ≤ (e.dev.lane l).op.seekingCount + 1 →
      (e.fieldStartEnabled l p b).opView l =
        endedView ((e.dev.lane l).op.countSeeking.sansJobs, e.notesOf 3) l .abnormal (some .lockFailed) .nothing) := by
  rw [Ev.fieldStartEnabled_of_not_top htop, Ev.finishChain_of_none hc] at ht ⊢
  generalize (e.dev.lane l).ingest.sequence + 1 = q at ht ⊢
  rw [Ev.openNewField_state] at ht
  have hclose : ((e.closeOpenField l false q).ev.dev.lane l).ingest.state ≠ .locked := fun h => by
    rw [ClosedField.release_ingest, if_neg (by simp [h]), h] at ht
    cases ht
  obtain ⟨h1, h2, h3⟩ := Ev.closeOpenField_quiet hs hclose
  obtain ⟨r1, r2, r3⟩ := ClosedField.release_quiet (c := e.closeOpenField l false q) (l := l) (q := q)
  generalize (e.closeOpenField l false q).release l q = e₁ at ht r1 r2 r3 ⊢
  rw [← h1, ← h2, ← h3, ← r1, ← r2, ← r3]
  exact Ev.openNewField_acquiring (by rw [r1, h1, ho]) ht

/-- An event without a completion leaves the part as its work does. -/
theorem State.event_dev_of_no_completion {f : Ev → Ev} (h : (f (Ev.start s.dev)).notesOf 3 = []) :
    (s.event f).dev = (f (Ev.start s.dev)).dev := Ev.commit_of_no_completion h s.link

/-- The end of an operation that an event leaves as it is. -/
theorem State.event_op_of_view {f : Ev → Ev} (h : (f (Ev.start s.dev)).opView l = (Ev.start s.dev).opView l) :
    ((s.event f).dev.lane l).op.state = (s.dev.lane l).op.state ∧
      ((s.event f).dev.lane l).op.endClass = (s.dev.lane l).op.endClass ∧
      ((s.event f).dev.lane l).op.endCause = (s.dev.lane l).op.endCause := by
  obtain ⟨y, hy⟩ := s.event_op f l
  rw [hy]
  generalize f (Ev.start s.dev) = e at h
  have hop : (e.dev.lane l).op.sansJobs = (s.dev.lane l).op.sansJobs := congrArg Prod.fst h
  have hst := congrArg Controller.state hop
  have hcl := congrArg Controller.endClass hop
  have hca := congrArg Controller.endCause hop
  exact ⟨hst, hcl, hca⟩

/-- The lock after a field-start, in the words of the statement (R8 to R10). -/
theorem State.fieldStart_closes (s : State) (l : Lane) (p : Parity) (h : Bool) (f : OpenField) (g : IngestLane) (w : Bool)
    (hg : (s.dev.lane l).ingest = g) (hf : g.openField = some f) (htop : g.sequence ≠ 4294967295)
    (hw : w = true ↔ f.lines = (s.dev.lane l).settings.standard.lines ∧ f.malformed = false ∧
      (f.lineOpen = true → 1440 ≤ f.words) ∧ g.prevParity ≠ some f.parity)
    (hs : g.state = .seeking ∨ g.state = .locked) :
    ∃ f' y z n, f'.parity = f.parity ∧ f'.wellFormed (s.dev.lane l).settings.standard g.prevParity = w ∧
      ((s.event fun e => e.fieldStartEnabled l p h).dev.lane l).ingest =
        { g.afterClose f' (s.dev.lane l).settings.standard (s.dev.lane l).settings.lockIn with
          lastStored := y, sequence := n, openField := z, timer := true } := by
  subst hg
  obtain ⟨y, z, hx⟩ := Ev.fieldStart_ingest (e := Ev.start s.dev) (p := p) (b := h) htop hf hs
  exact ⟨_, y, z, _, closeLine_parity, Bool.eq_iff_iff.2 (closeLine_wellFormed.trans hw.symm), (s.event_ingest _).trans hx⟩

/-- Settles O8: the close's equation of the Ingest Lane, and of the operation the lock, the lock loss and the seeking count
that the close and the opening report to it. -/
theorem fieldCloseMovesLock : Obligations.FieldCloseMovesLock := by
  refine ⟨fun s l p h f g w hg hf htop hw hs => ?_, fun s l p h op hc ho => ?_⟩
  · obtain ⟨f', y, z, n, hpar, hwf, hx⟩ := State.fieldStart_closes s l p h f g w hg hf htop hw hs
    have hsk := fun hst => IngestLane.afterClose_seeking (lockIn := (s.dev.lane l).settings.lockIn) hst hwf
    have hlk := fun hst => IngestLane.afterClose_locked (lockIn := (s.dev.lane l).settings.lockIn) hst hwf
    have hon : (s.dev.lane l).ingest.state ≠ .off := by rw [hg]; rcases hs with h | h <;> simp [h]
    exact ⟨_, _, exec_fieldStart hon, hx, IngestLane.afterClose_prevParity.trans (congrArg some hpar),
      fun h => (hsk h).1, fun h => (hsk h).2.1, fun h => (hsk h).2.2,
      fun h => (hlk h).1, fun h => (hlk h).2.1, fun h => (hlk h).2.2⟩
  · subst ho
    by_cases hon : (s.dev.lane l).ingest.state = .off
    · exact ⟨_, rfl, by simp [hon], by simp [hon], by simp [hon]⟩
    refine ⟨_, exec_fieldStart hon, fun n hn hs ht => ?_, fun n hn hs htop ht => ?_, fun hs ht => ?_⟩
    · rw [s.event_ingest] at ht
      have hv := Ev.fieldStart_acquired (e := Ev.start s.dev) (p := p) (b := h) hc hs hn ht
      exact ⟨_, State.endsWith_of_view hv rfl, congrArg OpState.kind hn, rfl, rfl, rfl⟩
    · rw [s.event_ingest] at ht
      obtain ⟨h1, h2⟩ := Ev.fieldStart_acquiring (e := Ev.start s.dev) (p := p) (b := h) hc hn hs htop ht
      refine ⟨fun hk => ?_, fun hk => ?_⟩
      · obtain ⟨h3, h4⟩ := h1 hk
        rw [State.event_dev_of_no_completion (f := fun e => e.fieldStartEnabled l p h) h4]
        exact h3
      · have hv : ((Ev.start s.dev).fieldStartEnabled l p h).opView l =
            endedView ((s.dev.lane l).op.countSeeking.sansJobs, []) l .abnormal (some .lockFailed) .nothing := h2 hk
        exact ⟨_, State.endsWith_of_view hv rfl, congrArg OpState.kind hn, rfl, rfl, rfl⟩
    · rw [s.event_ingest] at ht
      have hll := Ev.fieldStart_lostLock (e := Ev.start s.dev) (p := p) (b := h) hc hs ht
      refine ⟨fun hk => ?_, fun t hk => State.transferEnds_of_view hk (hll.running t hk) rfl, fun t hk => ?_⟩
      · exact ⟨_, State.endsWith_of_view (hll.ended (OpState.endsOnLoss_of_kind hk)) rfl, rfl, rfl, rfl, rfl, rfl⟩
      · exact State.event_op_of_view (f := fun e => e.fieldStartEnabled l p h) (hll.draining t hk)

end
end Sys2Proof.Machine

/-! SUPPORT. The Field Store through a field-start: what the close and the opening leave of the slot table, the free list and the
stacked DRAM, and what an intake makes of them (R33, R37 to R41). -/
namespace Sys2Proof.Machine
section
variable {d d' : Device} {e e' : Ev} {l : Lane} {i k : SlotId} {s : State} {q : Nat} {p : Parity} {b w : Bool} {f : OpenField}
  {prev : Option Parity} {kept : Option Nat} {c : ClosedField} {n : Notice} {rest : List SlotId} {cls : EndClass}
  {cause : Option Cause} {x : TransferParams}

/-! ## The Field Store's part of the machine -/

/-- What the Field Store has of the part at lane `l`. -/
structure FieldStore where
  slots    : Vector Slot 96
  freeList : List SlotId
  dram     : Dram
  quota    : Nat
  window   : List SlotId
  overrun  : Bool
  pending  : Nat
  chain    : Option ChainField

/-- The Field Store's part of a device at lane `l`. -/
def Device.fieldStore (d : Device) (l : Lane) : FieldStore where
  slots    := d.slots
  freeList := d.freeList
  dram     := d.dram
  quota    := (d.lane l).quota
  window   := (d.lane l).window
  overrun  := (d.lane l).overrun
  pending  := (d.lane l).op.jobs.length
  chain    := (d.lane l).chain

theorem Device.fieldStore_of_beside (h : d'.beside = d.beside) : d'.fieldStore l = d.fieldStore l := by
  simp only [Device.fieldStore, Device.slots_of_beside h, Device.freeList_of_beside h, Device.dram_of_beside h,
    Device.quota_of_beside h l, Device.window_of_beside h l, Device.overrun_of_beside h l, Device.jobsLength_of_beside h l,
    Device.chain_of_beside h l]

section Projections
variable (h : d'.fieldStore l = d.fieldStore l)
include h

theorem Device.slot_of_fieldStore (k : SlotId) : d'.slot k = d.slot k := congrArg (fun x => x.slots[k]) h
theorem Device.freeList_of_fieldStore : d'.freeList = d.freeList := congrArg FieldStore.freeList h
theorem Device.dram_of_fieldStore : d'.dram = d.dram := congrArg FieldStore.dram h
theorem Device.quota_of_fieldStore : (d'.lane l).quota = (d.lane l).quota := congrArg FieldStore.quota h
theorem Device.jobsLength_of_fieldStore : (d'.lane l).op.jobs.length = (d.lane l).op.jobs.length :=
  congrArg FieldStore.pending h
theorem Device.chain_of_fieldStore : (d'.lane l).chain = (d.lane l).chain := congrArg FieldStore.chain h

end Projections

@[simp] theorem Ev.fieldStore_modIngest {g : IngestLane → IngestLane} :
    (e.modIngest l g).dev.fieldStore l = e.dev.fieldStore l := by simp [Device.fieldStore, Ev.modIngest]
@[simp] theorem Ev.fieldStore_setLaneState {y : LaneState} :
    (e.setLaneState l y q).dev.fieldStore l = e.dev.fieldStore l := by
  rw [Ev.setLaneState, Ev.note_dev, Ev.fieldStore_modIngest]
@[simp] theorem Ev.fieldStore_lockLoss {y : LaneState} :
    (e.lockLoss l y kept).dev.fieldStore l = e.dev.fieldStore l := Device.fieldStore_of_beside (Ev.beside_lockLoss _ _)
@[simp] theorem Ev.fieldStore_discontinuity : (e.discontinuity l q).dev.fieldStore l = e.dev.fieldStore l :=
  Device.fieldStore_of_beside (Ev.beside_discontinuity _)
@[simp] theorem Ev.fieldStore_acquired : (e.acquired l).dev.fieldStore l = e.dev.fieldStore l :=
  Device.fieldStore_of_beside Ev.beside_acquired
@[simp] theorem Ev.fieldStore_lockedClose : (e.lockedClose l w kept q).dev.fieldStore l = e.dev.fieldStore l := by
  unfold Ev.lockedClose
  repeat' split
  all_goals simp
@[simp] theorem Ev.fieldStore_seekingClose : (e.seekingClose l w q).dev.fieldStore l = e.dev.fieldStore l := by
  unfold Ev.seekingClose
  dsimp only
  repeat' split
  all_goals simp
@[simp] theorem Ev.fieldStore_openedField : (e.openedField l q p b).dev.fieldStore l = e.dev.fieldStore l :=
  (Device.fieldStore_of_beside Ev.openedField_beside).trans Ev.fieldStore_modIngest

/-- Writing words changes the stacked DRAM alone. -/
theorem Ev.fieldStore_setDram (m : Dram) :
    (e.setDram m).dev.fieldStore l = { e.dev.fieldStore l with dram := m } := rfl

theorem Ev.fieldStore_setChain (y : Option ChainField) :
    (e.setChain l y).dev.fieldStore l = { e.dev.fieldStore l with chain := y } := by simp [Device.fieldStore, Ev.setChain]

/-! ## The close and the slots -/

/-- Two parts that the Field Store sees alike at lane `l`, but for field records, sample words and the field in the chain. -/
structure Device.SameSlots (d d' : Device) (l : Lane) : Prop where
  store : ∃ v m y, d'.fieldStore l = { d.fieldStore l with slots := v, dram := m, chain := y }
  slot  : ∀ k, ∃ r, d'.slot k = { d.slot k with record := r }

theorem Device.SameSlots.of_fieldStore (h : d'.fieldStore l = d.fieldStore l) : d.SameSlots d' l :=
  ⟨⟨_, _, _, h⟩, fun k => ⟨_, Device.slot_of_fieldStore h k⟩⟩

theorem Device.SameSlots.trans {d'' : Device} (h : d.SameSlots d' l) (h' : d'.SameSlots d'' l) : d.SameSlots d'' l := by
  obtain ⟨v, m, y, hs⟩ := h.store
  obtain ⟨v', m', y', hs'⟩ := h'.store
  refine ⟨⟨v', m', y', by rw [hs', hs]⟩, fun k => ?_⟩
  obtain ⟨r, hr⟩ := h.slot k
  obtain ⟨r', hr'⟩ := h'.slot k
  exact ⟨r', by rw [hr', hr]⟩

theorem Device.SameSlots.modRecord (d : Device) (i : SlotId) (g : FieldRecord → FieldRecord) :
    d.SameSlots (d.modRecord i g) l := by
  refine ⟨⟨_, _, _, rfl⟩, fun k => ?_⟩
  rw [Device.modRecord, Device.slot_setSlot]
  split
  · subst k; exact ⟨_, rfl⟩
  · exact ⟨_, rfl⟩

theorem Device.SameSlots.setDram (d : Device) (m : Dram) : d.SameSlots (d.setDram m) l :=
  ⟨⟨_, _, _, rfl⟩, fun _ => ⟨_, rfl⟩⟩

/-- The same slots freed leave the same free list, owners, quota and number of pending jobs. -/
theorem Device.SameSlots.giveBack (h : d.SameSlots d' l) (y : List SlotId) :
    (d'.giveBack [] y).freeList = (d.giveBack [] y).freeList ∧
      (∀ k, ((d'.giveBack [] y).slot k).owner = ((d.giveBack [] y).slot k).owner) ∧
      ((d'.giveBack [] y).lane l).quota = (d.lane l).quota ∧
      ((d'.giveBack [] y).lane l).op.jobs.length = (d.lane l).op.jobs.length := by
  obtain ⟨v, m, y, h0⟩ := h.store
  have hf : d'.freeList = d.freeList := congrArg FieldStore.freeList h0
  have hq : (d'.lane l).quota = (d.lane l).quota := congrArg FieldStore.quota h0
  have hj : (d'.lane l).op.jobs.length = (d.lane l).op.jobs.length := congrArg FieldStore.pending h0
  have hstate (k) : (d'.slot k).state = (d.slot k).state := by obtain ⟨r, hr⟩ := h.slot k; rw [hr]
  have hrefs (k) : (d'.slot k).refs = (d.slot k).refs := by obtain ⟨r, hr⟩ := h.slot k; rw [hr]
  have hseq (k) : (d'.slot k).sequence = (d.slot k).sequence := by obtain ⟨r, hr⟩ := h.slot k; rw [hr]
  refine ⟨?_, fun k => ?_, by rw [Device.giveBack_lane, hq], by rw [Device.giveBack_lane, hj]⟩
  · simp only [Device.giveBack_freeList, List.foldl_nil, Device.slotsToFree, hf, hstate, hrefs, hseq]
    congr!
  · rw [Device.giveBack_slot, Device.giveBack_slot, hstate, hrefs]
    obtain ⟨r, hr⟩ := h.slot k
    split
    · rfl
    · rw [hr]

theorem Device.slotsInUse_congr (h : ∀ k, (d'.slot k).owner = (d.slot k).owner) : d'.slotsInUse l = d.slotsInUse l := by
  simp only [Device.slotsInUse, h]

/-- The slot that a LOCKED lane's open field leaves when it is discarded (R41). -/
def IngestLane.discarded (g : IngestLane) : List SlotId :=
  match g.state, g.openField.bind OpenField.slot with
  | .locked, some i => if g.prevParity = g.openField.map OpenField.parity then [i] else []
  | _, _ => []

theorem Ev.padded_sameSlots : e.dev.SameSlots (e.padded l i f).dev l := .setDram _ _

theorem Ev.keepField_sameSlots : e.dev.SameSlots (e.keepField l i f).dev l :=
  (Device.SameSlots.modRecord e.dev i _).trans
    ⟨⟨_, _, _, by rw [Ev.keepField, Ev.fieldStore_setChain, Ev.fieldStore_modIngest]; rfl⟩, fun _ => ⟨_, rfl⟩⟩

theorem Ev.lockedClose_sameSlots : e.dev.SameSlots (e.lockedClose l w kept q).dev l :=
  .of_fieldStore Ev.fieldStore_lockedClose

theorem Ev.discontinuity_sameSlots : e.dev.SameSlots (e.discontinuity l q).dev l :=
  .of_fieldStore Ev.fieldStore_discontinuity

theorem Ev.closeLocked_sameSlots : e.dev.SameSlots (e.closeLocked l f prev w q).ev.dev l := by
  have of_eq {c : ClosedField} {e₁ : Ev} {g : List SlotId} (h : c = ⟨e₁, g⟩) (hs : e.dev.SameSlots e₁.dev l) :
    e.dev.SameSlots c.ev.dev l := by rw [h]; exact hs
  cases hs : f.slot with
  | none => exact of_eq (Ev.closeLocked_dropped hs) (Ev.discontinuity_sameSlots.trans Ev.lockedClose_sameSlots)
  | some i =>
    by_cases hp : prev = some f.parity
    · exact of_eq (Ev.closeLocked_discarded hs hp)
        (Ev.padded_sameSlots.trans (Ev.discontinuity_sameSlots.trans Ev.lockedClose_sameSlots))
    cases w
    · exact of_eq (Ev.closeLocked_kept hs hp)
        (Ev.padded_sameSlots.trans (Ev.keepField_sameSlots.trans Ev.lockedClose_sameSlots))
    · exact of_eq (Ev.closeLocked_abandoned hs hp) (Ev.padded_sameSlots.trans Ev.lockedClose_sameSlots)

/-- A close leaves the free list and the slots as they are, but for the record of the field that it keeps. -/
theorem Ev.closeOpenField_sameSlots : e.dev.SameSlots (e.closeOpenField l w q).ev.dev l := by
  unfold Ev.closeOpenField
  dsimp only
  split
  · exact .of_fieldStore (l := l) rfl
  have h1 (m : Dram) (g : IngestLane → IngestLane) : e.dev.SameSlots ((e.setDram m).modIngest l g).dev l :=
    (Device.SameSlots.setDram e.dev m).trans (.of_fieldStore Ev.fieldStore_modIngest)
  split
  · exact (h1 _ _).trans Ev.closeLocked_sameSlots
  · exact (h1 _ _).trans (.of_fieldStore Ev.fieldStore_seekingClose)
  · exact h1 _ _

/-- What the close in SEEKING and LOCKED leaves to free below the top of the counter. -/
theorem Ev.closeOpenField_freed (hs : (e.dev.lane l).ingest.state = .seeking ∨ (e.dev.lane l).ingest.state = .locked) :
    (e.closeOpenField l false q).freed = (e.dev.lane l).ingest.discarded := by
  cases hf : (e.dev.lane l).ingest.openField with
  | none =>
    rw [Ev.closeOpenField_none hf]
    rcases hs with hs | hs <;> simp [IngestLane.discarded, hs, hf]
  | some f =>
    rcases hs with hs | hs
    · obtain ⟨e₁, w', h1, -⟩ := Ev.closeOpenField_of_seeking (w := false) (q := q) hs hf
      rw [h1]
      simp [IngestLane.discarded, hs]
    · obtain ⟨e₁, h1, -⟩ := Ev.closeOpenField_of_locked (w := false) (q := q) hs hf
      rw [h1]
      simp only [IngestLane.discarded, hs, hf, Option.bind_some, Option.map_some]
      cases hi : f.slot with
      | none => rw [Ev.closeLocked_dropped (by rw [closeLine_slot, hi])]
      | some i =>
        have hi' := fun m => (closeLine_slot (std := (e.dev.lane l).settings.standard) (m := m) (f := f)).trans hi
        by_cases hp : (e.dev.lane l).ingest.prevParity = some f.parity
        · rw [Ev.closeLocked_discarded (hi' _) (by rw [closeLine_parity, hp])]
          simp [hp]
        · rw [Ev.closeLocked_kept (hi' _) (by rw [closeLine_parity]; exact hp)]
          simp [hp]

/-! ## The intake (R37 to R39) -/

theorem Device.hasRoom_iff :
    d.hasRoom l = true ↔ d.slotsInUse l < (d.lane l).quota ∧ (d.lane l).op.jobs.length < 32 := by
  rw [Device.hasRoom, Bool.and_eq_true, decide_eq_true_iff, decide_eq_true_iff]; rfl

theorem Ev.intake_takes (hf : e.dev.freeList = i :: rest) (hr : e.dev.hasRoom l = true) :
    e.intake l q p b = e.modDev fun d => d.takeSlot l i q p b := by
  simp only [Ev.intake, hf, hr]

theorem Ev.intake_drops (hr : ¬e.dev.hasRoom l = true) : e.intake l q p b = e.dropField l q := by
  unfold Ev.intake
  split
  · exact absurd ‹_› hr
  · rfl

theorem Device.takeSlot_slot :
    (d.takeSlot l i q p b).slot k = if k = i then Slot.taken l q p b else d.slot k := Device.slot_setSlot _ _ _ _

theorem Device.takeSlot_freeList (h : d.freeList = i :: rest) : (d.takeSlot l i q p b).freeList = rest := by
  show d.freeList.tail = rest
  rw [h]; rfl

theorem Ev.openEpisode_lane :
    (e.openEpisode l q).dev.lane l = { e.dev.lane l with overrun := true } := by
  unfold Ev.openEpisode
  split
  · rename_i h; rw [← h]
  · simp

theorem Ev.openEpisode_notes :
    (e.openEpisode l q).notes = e.notes ++ if (e.dev.lane l).overrun then [] else [.overrun l q] := by
  unfold Ev.openEpisode
  split <;> simp

theorem Ev.openEpisode_store : (e.openEpisode l q).dev.slots = e.dev.slots ∧
    (e.openEpisode l q).dev.freeList = e.dev.freeList ∧ (e.openEpisode l q).dev.dram = e.dev.dram := by
  unfold Ev.openEpisode
  split <;> exact ⟨rfl, rfl, rfl⟩

/-- A drop ends a RUNNING transfer that has STOP_ON_OVERRUN, and does nothing else to the operation (R149). -/
theorem Ev.stopOnDrop_cases :
    (e.stopOnDrop l = e ∧ ∀ x, (e.dev.lane l).op.state = .transfer .running x → x.stopOnOverrun = false) ∨
      ∃ x, (e.dev.lane l).op.state = .transfer .running x ∧ x.stopOnOverrun = true ∧
        e.stopOnDrop l = e.endTransfer l .abnormal (some .overrun) := by
  unfold Ev.stopOnDrop
  split
  · rename_i x hx
    cases hp : x.stopOnOverrun
    · refine .inl ⟨by simp, fun y hy => ?_⟩
      obtain rfl : x = y := by simpa [hx] using hy
      exact hp
    · exact .inr ⟨x, hx, hp, by simp⟩
  · rename_i h
    exact .inl ⟨rfl, fun x hx => absurd hx (h x)⟩

theorem Ev.endTransfer_notes : ∃ more, (e.endTransfer l cls cause).notes = e.notes ++ more ∧ ∀ n ∈ more, n.rank = 3 := by
  unfold Ev.endTransfer Ev.settle
  repeat' split
  · exact ⟨_, rfl, by simp [Notice.rank]⟩
  all_goals exact ⟨[], by simp, by simp⟩

/-- The controller of a transfer that has ended, whether it drains or has completed. -/
theorem Ev.endTransfer_op {sub : SubState} (h : (e.dev.lane l).op.state = .transfer sub x) :
    ((e.endTransfer l cls cause).dev.lane l).op.counts = (e.dev.lane l).op.counts ∧
      ((e.endTransfer l cls cause).dev.lane l).op.causes = ((e.dev.lane l).op.recordEnd cls cause).causes ∧
      ((e.endTransfer l cls cause).dev.lane l).op.endClass = some cls ∧
      ((e.endTransfer l cls cause).dev.lane l).op.endCause = cause ∧
      (e.dev.outstanding l → ((e.endTransfer l cls cause).dev.lane l).op.state = .transfer .draining x) := by
  have hop := congrArg Prod.fst (Ev.opView_endTransfer (cls := cls) (cause := cause) h)
  have hout (ho : e.dev.outstanding l) : ¬e.dev.drained l = true := fun hd => Device.drained_iff.1 hd ho
  generalize e.endTransfer l cls cause = e₁ at hop
  generalize e.dev.drained l = z at hop hout
  have hcnt := congrArg Controller.counts hop
  have hcs := congrArg Controller.causes hop
  have hcl := congrArg Controller.endClass hop
  have hca := congrArg Controller.endCause hop
  have hst := congrArg Controller.state hop
  cases z
  · exact ⟨hcnt, hcs, hcl, hca, fun _ => hst⟩
  · exact ⟨hcnt, hcs, hcl, hca, fun ho => absurd rfl (hout ho)⟩

end
end Sys2Proof.Machine

/-! SUPPORT. The drop at an intake (R38, R39, R149), and the slot of the field that a field-start opens. -/
namespace Sys2Proof.Machine
section
variable {d d' : Device} {e : Ev} {l : Lane} {i : SlotId} {s : State} {q : Nat} {p : Parity} {b : Bool} {f : OpenField}
  {c : ClosedField} {rest : List SlotId} {x : TransferParams}

/-! ## A drop -/

theorem Controller.drop_of_running {op : Controller} (h : op.state ≠ .idle) :
    op.drop.counts.fieldsDropped = min 4294967295 (op.counts.fieldsDropped + 1) ∧ .overrun ∈ op.drop.causes := by
  have hi : op.state.isIdle = false := Bool.eq_false_iff.2 fun hx => h (OpState.isIdle_iff.1 hx)
  refine ⟨?_, Controller.mem_causes_observe (by simpa using h)⟩
  simp only [Controller.drop, Controller.observe_counts, Controller.count, hi]
  rfl

theorem Controller.mem_recordEnd {op : Controller} {y : Cause} {cls : EndClass} {cause : Option Cause}
    (h : y ∈ op.causes) : y ∈ (op.recordEnd cls cause).causes := by
  unfold Controller.recordEnd insertCause
  cases cause
  · exact h
  · dsimp only
    split
    · exact h
    · exact List.mem_append_left _ h

/-- The drop's own part, before it reaches the operation's end and the episode. -/
def Ev.dropped (e : Ev) (l : Lane) : Ev := e.modOp l Controller.drop

@[simp] theorem Ev.dropped_op : ((e.dropped l).dev.lane l).op = (e.dev.lane l).op.drop := by simp [Ev.dropped]
theorem Ev.dropped_beside : (e.dropped l).dev.beside = e.dev.beside := Ev.beside_modOp (by simp)

theorem Ev.dropped_outstanding (h : e.dev.outstanding l) : (e.dropped l).dev.outstanding l := by
  have hc : ((e.dropped l).dev.lane l).channel = (e.dev.lane l).channel := Device.channel_of_beside Ev.dropped_beside l
  have he : (e.dropped l).dev.engine = e.dev.engine := rfl
  simpa [Device.outstanding, hc, he, Controller.drop] using h

theorem Ev.dropField_eq : e.dropField l q = ((e.dropped l).stopOnDrop l).openEpisode l q := rfl

/-- A drop at an intake leaves the slots, the free list, the DRAM and the Ingest Lane, and an episode is open after it. -/
theorem Ev.dropField_store : (e.dropField l q).dev.slots = e.dev.slots ∧ (e.dropField l q).dev.freeList = e.dev.freeList ∧
    (e.dropField l q).dev.dram = e.dev.dram ∧ ((e.dropField l q).dev.lane l).overrun = true := by
  have hb : ((e.dropped l).stopOnDrop l).dev.beside = e.dev.beside := Ev.beside_stopOnDrop.trans Ev.dropped_beside
  rw [Ev.dropField_eq]
  obtain ⟨h1, h2, h3⟩ := Ev.openEpisode_store (e := (e.dropped l).stopOnDrop l) (l := l) (q := q)
  exact ⟨h1.trans (Device.slots_of_beside hb), h2.trans (Device.freeList_of_beside hb),
    h3.trans (Device.dram_of_beside hb), by rw [Ev.openEpisode_lane]⟩

theorem Ev.dropField_op : ((e.dropField l q).dev.lane l).op = (((e.dropped l).stopOnDrop l).dev.lane l).op := by
  rw [Ev.dropField_eq, Ev.openEpisode_lane]

/-- What a drop does to a running operation (R38, R149). -/
theorem Ev.stopOnDrop_op (ho : (e.dev.lane l).op.state ≠ .idle) :
    ((((e.dropped l).stopOnDrop l).dev.lane l).op.counts.fieldsDropped =
        min 4294967295 ((e.dev.lane l).op.counts.fieldsDropped + 1) ∧
      .overrun ∈ (((e.dropped l).stopOnDrop l).dev.lane l).op.causes) ∧
    (∀ x, (e.dev.lane l).op.state = .transfer .running x → x.stopOnOverrun = true →
      (((e.dropped l).stopOnDrop l).dev.lane l).op.endClass = some .abnormal ∧
      (((e.dropped l).stopOnDrop l).dev.lane l).op.endCause = some .overrun ∧
      (e.dev.outstanding l → (((e.dropped l).stopOnDrop l).dev.lane l).op.state = .transfer .draining x)) ∧
    (∀ x, (e.dev.lane l).op.state = .transfer .running x → x.stopOnOverrun = false →
      (((e.dropped l).stopOnDrop l).dev.lane l).op.state = .transfer .running x) := by
  obtain ⟨hcnt, hcause⟩ := Controller.drop_of_running ho
  have hst : ((e.dropped l).dev.lane l).op.state = (e.dev.lane l).op.state := by simp
  rcases Ev.stopOnDrop_cases (e := e.dropped l) (l := l) with ⟨heq, hno⟩ | ⟨y, hy, hstop, heq⟩
  · rw [heq, Ev.dropped_op]
    refine ⟨⟨hcnt, hcause⟩, fun x hx hs => ?_, fun x hx _ => by rw [Controller.drop_state, hx]⟩
    rw [hno x (hst.trans hx)] at hs
    cases hs
  · obtain ⟨h1, h2, h3, h4, h5⟩ := Ev.endTransfer_op (cls := .abnormal) (cause := some .overrun) hy
    rw [Ev.dropped_op] at h1 h2
    have same (x) (hx : (e.dev.lane l).op.state = .transfer .running x) : y = x := by
      rw [hst, hx] at hy
      cases hy; rfl
    rw [heq]
    refine ⟨⟨by rw [h1, hcnt], by rw [h2]; exact Controller.mem_recordEnd hcause⟩, fun x hx _ => ?_, fun x hx hs => ?_⟩
    · exact ⟨h3, h4, fun hout => same x hx ▸ h5 (Ev.dropped_outstanding hout)⟩
    · rw [same x hx, hs] at hstop
      cases hstop

/-- A drop's OVERRUN notice is issued where no episode was open (R39); a transfer's end issues its completion before it. -/
theorem Ev.dropField_notes : ∃ more, (e.dropField l q).notes = e.notes ++ more ∧
    (Notice.overrun l q ∈ more ↔ (e.dev.lane l).overrun = false) := by
  have hover : (((e.dropped l).stopOnDrop l).dev.lane l).overrun = (e.dev.lane l).overrun :=
    Device.overrun_of_beside (Ev.beside_stopOnDrop.trans Ev.dropped_beside) l
  have hstop : ∃ more, ((e.dropped l).stopOnDrop l).notes = e.notes ++ more ∧ Notice.overrun l q ∉ more := by
    rcases Ev.stopOnDrop_cases (e := e.dropped l) (l := l) with ⟨heq, -⟩ | ⟨y, -, -, heq⟩ <;> rw [heq]
    · exact ⟨[], by simp [Ev.dropped], by simp⟩
    · obtain ⟨more, h1, h2⟩ := Ev.endTransfer_notes (e := e.dropped l) (l := l) (cls := .abnormal) (cause := some .overrun)
      exact ⟨more, h1, fun h => absurd (h2 _ h) (by simp [Notice.rank])⟩
  obtain ⟨more, hm, hn⟩ := hstop
  rw [Ev.dropField_eq, Ev.openEpisode_notes, hover, hm, List.append_assoc]
  refine ⟨_, rfl, ?_⟩
  cases (e.dev.lane l).overrun <;> simp [hn]

/-! ## The store when the new field opens -/

theorem ClosedField.release_fieldStore :
    (c.release l q).dev.fieldStore l = (c.ev.dev.giveBack [] c.freed).fieldStore l := by
  unfold ClosedField.release
  dsimp only
  split <;> simp

/-- Between the close and the opening of a field below the top of the counter: the discarded slot is free, and the lane's
quota, the owners and the number of pending jobs are as before (R37, R41). -/
theorem Ev.release_store (hs : (e.dev.lane l).ingest.state = .seeking ∨ (e.dev.lane l).ingest.state = .locked) :
    let d := ((e.closeOpenField l false q).release l q).dev
    let d' := e.dev.giveBack [] (e.dev.lane l).ingest.discarded
    d.freeList = d'.freeList ∧ d.slotsInUse l = d'.slotsInUse l ∧ (d.lane l).quota = (e.dev.lane l).quota ∧
      (d.lane l).op.jobs.length = (e.dev.lane l).op.jobs.length := by
  have hr := ClosedField.release_fieldStore (c := e.closeOpenField l false q) (l := l) (q := q)
  obtain ⟨h1, h2, h3, h4⟩ :=
    (Ev.closeOpenField_sameSlots (e := e) (l := l) (w := false) (q := q)).giveBack (e.dev.lane l).ingest.discarded
  rw [Ev.closeOpenField_freed hs] at hr
  exact ⟨(Device.freeList_of_fieldStore hr).trans h1,
    Device.slotsInUse_congr fun k => by rw [Device.slot_of_fieldStore hr, h2],
    (Device.quota_of_fieldStore hr).trans h3, (Device.jobsLength_of_fieldStore hr).trans h4⟩

/-- A field-start that does not leave the lane LOCKED takes no slot: slots only join the free list. -/
theorem Ev.fieldStart_not_locked (hc : (e.dev.lane l).chain = none)
    (ht : ((e.fieldStartEnabled l p b).dev.lane l).ingest.state ≠ .locked) :
    (∃ n, ((e.fieldStartEnabled l p b).dev.lane l).ingest.openField = some (OpenField.start n p b)) ∧
      ∃ more, (e.fieldStartEnabled l p b).dev.freeList = e.dev.freeList ++ more := by
  have opens (e₁ : Ev) (n : Nat) (h : ((e₁.openNewField l n p b).dev.lane l).ingest.state ≠ .locked) :
      ((e₁.openNewField l n p b).dev.lane l).ingest.openField = some (OpenField.start n p b) ∧
        (e₁.openNewField l n p b).dev.freeList = e₁.dev.freeList := by
    rw [Ev.openNewField_state] at h
    rw [Ev.openNewField_of_not_locked h, Ev.openedField_ingest]
    exact ⟨rfl, Device.freeList_of_fieldStore Ev.fieldStore_openedField⟩
  have hsame {w : Bool} {n : Nat} : (e.closeOpenField l w n).ev.dev.freeList = e.dev.freeList := by
    obtain ⟨v, m, y, h⟩ := (Ev.closeOpenField_sameSlots (e := e) (l := l) (w := w) (q := n)).store
    exact congrArg FieldStore.freeList h
  have hfin := Ev.finishChain_of_none hc
  by_cases htop : (e.dev.lane l).ingest.sequence = 4294967295
  · rw [Ev.fieldStartEnabled_of_top htop, hfin] at ht ⊢
    obtain ⟨h1, h2⟩ := opens _ _ ht
    refine ⟨⟨_, h1⟩, ?_⟩
    rw [h2, Device.freeList_of_beside Ev.reenterLane_beside, Ev.reentered, Ev.enableLane_dev, Device.modLane_freeList,
      Ev.modDev_dev, Device.giveBack_freeList, Ev.modLane_dev, Device.modLane_freeList, hsame]
    exact ⟨_, rfl⟩
  · rw [Ev.fieldStartEnabled_of_not_top htop, hfin] at ht ⊢
    obtain ⟨h1, h2⟩ := opens _ _ ht
    refine ⟨⟨_, h1⟩, ?_⟩
    rw [h2, Device.freeList_of_fieldStore ClosedField.release_fieldStore, Device.giveBack_freeList, hsame]
    exact ⟨_, rfl⟩

/-- A field-start that leaves the lane LOCKED is an intake for the field it opens, at a store in which the slot of a discarded
field is free (R5, R37, R41). -/
theorem Ev.fieldStart_locked (hon : (e.dev.lane l).ingest.state ≠ .off) (hc : (e.dev.lane l).chain = none)
    (ht : ((e.fieldStartEnabled l p b).dev.lane l).ingest.state = .locked) : ∃ (e₁ : Ev) (n : Nat),
    e.fieldStartEnabled l p b = e₁.intake l n p b ∧
      (e₁.dev.lane l).ingest.openField = some (OpenField.start n p b) ∧
      e₁.dev.freeList = (e.dev.giveBack [] (e.dev.lane l).ingest.discarded).freeList ∧
      e₁.dev.slotsInUse l = (e.dev.giveBack [] (e.dev.lane l).ingest.discarded).slotsInUse l ∧
      (e₁.dev.lane l).quota = (e.dev.lane l).quota ∧
      (e₁.dev.lane l).op.jobs.length = (e.dev.lane l).op.jobs.length ∧
      ((e.dev.lane l).ingest.state = .locked → (e₁.dev.lane l).op.sansJobs = (e.dev.lane l).op.sansJobs) := by
  have htop : (e.dev.lane l).ingest.sequence ≠ 4294967295 := fun h =>
    absurd (ht.symm.trans (Ev.fieldStart_top_state h)) (by decide)
  rw [Ev.fieldStartEnabled_of_not_top htop, Ev.finishChain_of_none hc] at ht ⊢
  generalize (e.dev.lane l).ingest.sequence + 1 = n at ht ⊢
  rw [Ev.openNewField_state] at ht
  have hclose : ((e.closeOpenField l false n).ev.dev.lane l).ingest.state = .locked := by
    rw [ClosedField.release_ingest] at ht
    split at ht
    · cases ht
    · exact ht
  have hs : (e.dev.lane l).ingest.state = .seeking ∨ (e.dev.lane l).ingest.state = .locked := by
    cases hx : (e.dev.lane l).ingest.state with
    | off => exact absurd hx hon
    | noSignal => rw [(Ev.closeOpenField_state (q := n) (w := false)).1 hx] at hclose; cases hclose
    | seeking => exact .inl rfl
    | locked => exact .inr rfl
  obtain ⟨h1, h2, h3, h4⟩ := Ev.release_store (q := n) hs
  have hlock (hl : (e.dev.lane l).ingest.state = .locked) :
      ((e.closeOpenField l false n).release l n).outlook l = e.outlook l :=
    ClosedField.release_outlook.trans ((Ev.closeOpenField_locked_op hl).1 hclose)
  generalize (e.closeOpenField l false n).release l n = e₁ at *
  have hst := Ev.fieldStore_openedField (e := e₁) (l := l) (q := n) (p := p) (b := b)
  refine ⟨e₁.openedField l n p b, n, Ev.openNewField_of_locked ht, by rw [Ev.openedField_ingest],
    (Device.freeList_of_fieldStore hst).trans h1,
    (Device.slotsInUse_congr fun k => by rw [Device.slot_of_fieldStore hst]).trans h2,
    (Device.quota_of_fieldStore hst).trans h3, (Device.jobsLength_of_fieldStore hst).trans h4, fun hl => ?_⟩
  exact congrArg (fun v => v.1.1) ((Ev.openedField_outlook (.inr (by simp [ht]))).trans (hlock hl))

/-! ## The obligation -/

/-- The part that an intake meets, as the statement writes it. -/
theorem Device.giveBack_discarded (d : Device) (g : IngestLane) :
    (match g.state, g.openField.bind OpenField.slot with
      | .locked, some i => if g.prevParity = g.openField.map OpenField.parity then d.giveBack [] [i] else d
      | _, _ => d) = d.giveBack [] g.discarded := by
  unfold IngestLane.discarded
  cases g.state with
  | locked =>
    cases g.openField.bind OpenField.slot with
    | none => simp
    | some i => dsimp only; split <;> simp
  | _ => simp

/-- An intake, in the words of the statement (R37 to R39, R149). -/
theorem Ev.intake_takesOrDrops (e : Ev) (l : Lane) (q : Nat) (p : Parity) (h : Bool) :
    (∀ i rest, e.dev.freeList = i :: rest → e.dev.slotsInUse l < (e.dev.lane l).quota →
      (e.dev.lane l).op.jobs.length < 32 →
      e.intake l q p h = (e.modDev fun d => d.takeSlot l i q p h) ∧
      (e.intake l q p h).dev.freeList = rest ∧ ((e.intake l q p h).dev.lane l).overrun = false ∧
      ∀ k, (e.intake l q p h).dev.slot k = if k = i then Slot.taken l q p h else e.dev.slot k) ∧
    ((e.dev.lane l).quota ≤ e.dev.slotsInUse l ∨ 32 ≤ (e.dev.lane l).op.jobs.length →
      e.intake l q p h = e.dropField l q) := by
  refine ⟨fun i rest hf hq hj => ?_, fun hno => Ev.intake_drops fun hr => ?_⟩
  · have heq := Ev.intake_takes (q := q) (p := p) (b := h) hf (Device.hasRoom_iff.2 ⟨hq, hj⟩)
    rw [heq]
    exact ⟨rfl, Device.takeSlot_freeList hf, by rw [Ev.modDev_dev, Device.takeSlot_lane], fun k => Device.takeSlot_slot⟩
  · have := Device.hasRoom_iff.1 hr
    omega

/-- Settles O10: the intake's two cases, and the store that a field-start's intake meets. -/
theorem intakeTakesHeadSlotOrDrops : Obligations.IntakeTakesHeadSlotOrDrops := by
  refine ⟨fun e l q p h => ?_, fun s l p h g d hg hon hc hd => ?_⟩
  · obtain ⟨htake, hdrop⟩ := e.intake_takesOrDrops l q p h
    refine ⟨fun i rest hf hq hj => ?_, fun hno => ?_⟩
    · obtain ⟨heq, hfree, hover, hslot⟩ := htake i rest hf hq hj
      refine ⟨by rw [heq]; rfl, hfree, by rw [hslot, if_pos rfl]; rfl, fun k hk => by rw [hslot, if_neg hk], hover, ?_⟩
      rw [heq, Ev.modDev_dev, Device.takeSlot_lane]
    · rw [hdrop hno, Ev.dropField_op]
      obtain ⟨h1, h2, h3, h4⟩ := Ev.dropField_store (e := e) (l := l) (q := q)
      exact ⟨h1, h2, h3, Ev.dropField_ingest, h4, fun ho => (Ev.stopOnDrop_op ho).1,
        fun x hx => (Ev.stopOnDrop_op (by simp [hx])).2.1 x hx, fun x hx => (Ev.stopOnDrop_op (by simp [hx])).2.2 x hx,
        Ev.dropField_notes⟩
  · subst hg
    replace hd := hd.trans (Device.giveBack_discarded s.dev _)
    subst hd
    have hing := s.event_ingest (l := l) fun e => e.fieldStartEnabled l p h
    have hb := s.event_beside fun e => e.fieldStartEnabled l p h
    obtain ⟨y, hop⟩ := s.event_op (fun e => e.fieldStartEnabled l p h) l
    have hnot := Ev.fieldStart_not_locked (e := Ev.start s.dev) (p := p) (b := h) hc
    have hlock := Ev.fieldStart_locked (e := Ev.start s.dev) (p := p) (b := h) hon hc
    rw [Ev.start_dev] at hnot hlock
    have hexec := exec_fieldStart (p := p) (b := h) hon
    generalize (s.event fun e => e.fieldStartEnabled l p h) = t at hexec hing hb hop
    generalize (Ev.start s.dev).fieldStartEnabled l p h = e at hing hb hop hnot hlock
    by_cases ht : (e.dev.lane l).ingest.state = .locked
    · obtain ⟨e₁, n, he, hf, hfree, huse, hq, hj, hsame⟩ := hlock ht
      obtain ⟨htake, hdrop⟩ := e₁.intake_takesOrDrops l n p h
      obtain ⟨x, hx⟩ := Ev.intake_ingest (q := n) (p := p) (b := h) hf rfl
      rw [he] at hing hb hop
      refine ⟨t, { OpenField.start n p h with slot := x }, hexec, by rw [hing, hx], fun hn => absurd ?_ hn, fun _ =>
        ⟨fun i rest hd hin hlen => ?_, fun hno => ?_⟩⟩
      · rw [hing, ← he]; exact ht
      · rw [← hfree] at hd
        rw [← huse] at hin
        rw [← hj] at hlen
        obtain ⟨heq, h1, h2, h3⟩ := htake i rest hd (by rw [hq]; exact hin) hlen
        have hsl : x = some i := by
          rw [heq, Ev.modDev_dev, Device.takeSlot_lane, hf] at hx
          simpa using (congrArg IngestLane.openField hx).symm
        exact ⟨hsl, (Device.freeList_of_beside hb).trans h1, (Device.overrun_of_beside hb l).trans h2,
          (Device.slot_of_beside hb i).trans ((h3 i).trans (if_pos rfl))⟩
      · rw [← huse, ← hj] at hno
        have heq := hdrop (by rw [hq]; exact hno)
        obtain ⟨-, h2, -, h4⟩ := Ev.dropField_store (e := e₁) (l := l) (q := n)
        rw [← heq] at h2 h4
        have hsl : x = none := by
          rw [heq, Ev.dropField_ingest] at hx
          simpa [OpenField.start] using (hf.symm.trans (congrArg IngestLane.openField hx)).symm
        refine ⟨hsl, (Device.freeList_of_beside hb).trans (h2.trans hfree), (Device.overrun_of_beside hb l).trans h4,
          fun hl ho => ?_⟩
        have hst := congrArg Controller.state (hsame hl)
        have hcnt := congrArg Controller.counts (hsame hl)
        obtain ⟨⟨hd, -⟩, -⟩ := Ev.stopOnDrop_op (e := e₁) (l := l) fun hi => ho (hst.symm.trans hi)
        rw [hop, heq, Ev.dropField_op]
        exact hd.trans (congrArg (fun c => min 4294967295 (c.fieldsDropped + 1)) hcnt)
    · obtain ⟨⟨n, hf⟩, more, hm⟩ := hnot ht
      refine ⟨t, _, hexec, by rw [hing, hf], fun _ => ⟨rfl, more, (Device.freeList_of_beside hb).trans hm⟩, fun h => ?_⟩
      rw [hing] at h
      exact absurd h ht

end
end Sys2Proof.Machine

/-! SUPPORT. A LOCKED lane's field at the next field-start: what the close makes of the chain, the jobs, the tracker, the
notices and the words, and that the opening leaves it at that (R11, R13, R40, R41, R78, R89). -/
namespace Sys2Proof.Machine
section
variable {d d' : Device} {e : Ev} {l : Lane} {i k : SlotId} {s : State} {q r : Nat} {p : Parity} {b w : Bool} {f : OpenField}
  {c : ClosedField} {prev : Option Parity} {kept : Option Nat} {std : Standard} {m : Dram}

/-! ## The opening leaves what the close made -/

theorem Ev.reportFieldStart_jobs : ((e.reportFieldStart l).dev.lane l).op.jobs = (e.dev.lane l).op.jobs := by
  unfold Ev.reportFieldStart
  dsimp only
  split
  · split <;> simp
  · rfl

theorem Ev.notesOf_reportFieldStart (h : r ≠ 3) : (e.reportFieldStart l).notesOf r = e.notesOf r := by
  unfold Ev.reportFieldStart
  dsimp only
  split
  · split
    · rw [Ev.notesOf_endNow_of_ne h, Ev.notesOf_modOp]
    · rfl
  · rfl

theorem Ev.stopOnDrop_keeps : ((e.stopOnDrop l).dev.lane l).op.jobs = (e.dev.lane l).op.jobs ∧
    ((e.stopOnDrop l).dev.lane l).monitor = (e.dev.lane l).monitor ∧
    ∀ r, r ≠ 3 → (e.stopOnDrop l).notesOf r = e.notesOf r := by
  rcases Ev.stopOnDrop_cases (e := e) (l := l) with ⟨h, -⟩ | ⟨x, -, -, h⟩ <;> rw [h]
  · exact ⟨rfl, rfl, fun _ _ => rfl⟩
  · exact ⟨Ev.endTransfer_jobs, Ev.endTransfer_monitor, fun _ => Ev.notesOf_endTransfer_of_ne⟩

/-- An intake leaves the pending jobs, the tracker, the chain, the words, and the LOCK and CADENCE notices. -/
theorem Ev.intake_keeps : ((e.intake l q p b).dev.lane l).op.jobs = (e.dev.lane l).op.jobs ∧
    ((e.intake l q p b).dev.lane l).monitor = (e.dev.lane l).monitor ∧
    ((e.intake l q p b).dev.lane l).chain = (e.dev.lane l).chain ∧ (e.intake l q p b).dev.dram = e.dev.dram ∧
    ∀ r, r < 2 → (e.intake l q p b).notesOf r = e.notesOf r := by
  unfold Ev.intake
  split
  · rw [Ev.modDev_dev, Device.takeSlot_lane]
    exact ⟨rfl, rfl, rfl, rfl, fun _ _ => rfl⟩
  · obtain ⟨h1, h2, h3⟩ := Ev.stopOnDrop_keeps (e := e.dropped l) (l := l)
    have hb : ((e.dropped l).stopOnDrop l).dev.beside = e.dev.beside := Ev.beside_stopOnDrop.trans Ev.dropped_beside
    obtain ⟨-, -, hd, -⟩ := Ev.dropField_store (e := e) (l := l) (q := q)
    have hn {r : Nat} (hr : r < 2) : (e.dropField l q).notesOf r = ((e.dropped l).stopOnDrop l).notesOf r := by
      rw [Ev.dropField_eq, Ev.notesOf, Ev.openEpisode_notes, List.filter_append]
      have hrank : (Notice.overrun l q).rank ≠ r := by show 2 ≠ r; omega
      have h0 : (if (((e.dropped l).stopOnDrop l).dev.lane l).overrun then []
          else [Notice.overrun l q]).filter (fun n => n.rank = r) = [] := by
        split
        · rfl
        · simp [hrank]
      rw [h0, List.append_nil]; rfl
    rw [Ev.dropField_eq, Ev.openEpisode_lane, ← Ev.dropField_eq]
    exact ⟨h1.trans (by simp), h2.trans (by simp [Ev.dropped]), Device.chain_of_beside hb l, hd,
      fun r hr => (hn hr).trans (h3 r (by omega))⟩

/-- The opening of a field leaves the pending jobs, the tracker, the chain, the words, and the LOCK and CADENCE notices. -/
theorem Ev.openNewField_keeps : ((e.openNewField l q p b).dev.lane l).op.jobs = (e.dev.lane l).op.jobs ∧
    ((e.openNewField l q p b).dev.lane l).monitor = (e.dev.lane l).monitor ∧
    ((e.openNewField l q p b).dev.lane l).chain = (e.dev.lane l).chain ∧
    (e.openNewField l q p b).dev.dram = e.dev.dram ∧
    ∀ r, r < 2 → (e.openNewField l q p b).notesOf r = e.notesOf r := by
  have hj : ((e.openedField l q p b).dev.lane l).op.jobs = (e.dev.lane l).op.jobs := by
    rw [Ev.openedField, Ev.reportFieldStart_jobs]; simp [Ev.modIngest]
  have hs := Ev.fieldStore_openedField (e := e) (l := l) (q := q) (p := p) (b := b)
  have hn (r : Nat) (hr : r < 2) : (e.openedField l q p b).notesOf r = e.notesOf r := by
    rw [Ev.openedField, Ev.notesOf_reportFieldStart (by omega), Ev.notesOf_modIngest]
  have hc := Device.chain_of_fieldStore hs
  have hd := Device.dram_of_fieldStore hs
  by_cases h : (e.dev.lane l).ingest.state = .locked
  · obtain ⟨h1, h2, h3, h4, h5⟩ := Ev.intake_keeps (e := e.openedField l q p b) (l := l) (q := q) (p := p) (b := b)
    rw [Ev.openNewField_of_locked h]
    exact ⟨h1.trans hj, h2.trans Ev.openedField_monitor, h3.trans hc, h4.trans hd, fun r hr => (h5 r hr).trans (hn r hr)⟩
  · rw [Ev.openNewField_of_not_locked h]
    exact ⟨hj, Ev.openedField_monitor, hc, hd, hn⟩

/-- The opening of a field takes the free list's head or no slot. -/
theorem Ev.openNewField_slots :
    ((e.openNewField l q p b).dev.freeList = e.dev.freeList ∧ ∀ k, (e.openNewField l q p b).dev.slot k = e.dev.slot k) ∨
    ∃ j rest, e.dev.freeList = j :: rest ∧ (e.openNewField l q p b).dev.freeList = rest ∧
      ∀ k, k ≠ j → (e.openNewField l q p b).dev.slot k = e.dev.slot k := by
  have hs := Ev.fieldStore_openedField (e := e) (l := l) (q := q) (p := p) (b := b)
  have hf := Device.freeList_of_fieldStore hs
  have hk := Device.slot_of_fieldStore hs
  by_cases h : (e.dev.lane l).ingest.state = .locked
  · rw [Ev.openNewField_of_locked h]
    generalize e.openedField l q p b = e₁ at hf hk
    unfold Ev.intake
    split
    · rename_i j rest hfree _
      refine .inr ⟨j, rest, by rw [← hf, hfree], Device.takeSlot_freeList hfree, fun k hne => ?_⟩
      rw [Ev.modDev_dev, Device.takeSlot_slot, if_neg hne, hk]
    · obtain ⟨h1, h2, -⟩ := Ev.dropField_store (e := e₁) (l := l) (q := q)
      exact .inl ⟨h2.trans hf, fun k => (congrArg (fun v : Vector Slot 96 => v[k]) h1).trans (hk k)⟩
  · rw [Ev.openNewField_of_not_locked h]
    exact .inl ⟨hf, hk⟩

/-- A slot that is not the free list's head keeps its entry through the opening. -/
theorem Ev.openNewField_slot_of_not_head (h : e.dev.freeList.head? ≠ some i) :
    (e.openNewField l q p b).dev.slot i = e.dev.slot i := by
  rcases Ev.openNewField_slots (e := e) (l := l) (q := q) (p := p) (b := b) with ⟨-, hk⟩ | ⟨j, rest, hf, -, hk⟩
  · exact hk i
  · exact hk i fun hij => h (by rw [hf, hij]; rfl)

theorem Ev.mem_openNewField_freeList (hm : i ∈ e.dev.freeList) (h : e.dev.freeList.head? ≠ some i) :
    i ∈ (e.openNewField l q p b).dev.freeList := by
  rcases Ev.openNewField_slots (e := e) (l := l) (q := q) (p := p) (b := b) with ⟨hf, -⟩ | ⟨j, rest, hf, hf', -⟩
  · rw [hf]; exact hm
  · rw [hf] at hm h
    rw [hf']
    exact (List.mem_cons.1 hm).resolve_left fun hij => h (by rw [hij]; rfl)

/-! ## The close of the run -/

/-- A close in LOCKED either stays LOCKED, with the runs alone changed, or is a lock loss. -/
theorem Ev.lockedClose_cases (hl : (e.dev.lane l).ingest.state = .locked) :
    (((e.lockedClose l w kept q).dev.lane l).ingest.state = .locked ∧
        ∃ g, e.lockedClose l w kept q = e.modIngest l g) ∨
      (((e.lockedClose l w kept q).dev.lane l).ingest.state = .seeking ∧
        e.lockedClose l w kept q = (e.setLaneState l .seeking q).lockLoss l .seeking kept) := by
  unfold Ev.lockedClose
  split
  · exact .inl ⟨by simp [hl], _, rfl⟩
  split
  · exact .inr ⟨by simp, rfl⟩
  · exact .inl ⟨by simp [hl], _, rfl⟩

theorem Ev.lockedClose_state (hl : (e.dev.lane l).ingest.state = .locked) :
    ((e.lockedClose l w kept q).dev.lane l).ingest.state ≠ .noSignal := by
  rcases Ev.lockedClose_cases (w := w) (kept := kept) (q := q) hl with ⟨h, -⟩ | ⟨h, -⟩ <;> simp [h]

theorem Ev.setLaneState_op {x : LaneState} : ((e.setLaneState l x q).dev.lane l).op = (e.dev.lane l).op := by
  simp [Ev.setLaneState, Ev.modIngest]

theorem Ev.setLaneState_monitor {x : LaneState} :
    ((e.setLaneState l x q).dev.lane l).monitor = (e.dev.lane l).monitor := by
  simp [Ev.setLaneState, Ev.modIngest]

theorem Ev.lockedClose_monitor (hl : (e.dev.lane l).ingest.state = .locked) :
    ((e.lockedClose l w kept q).dev.lane l).monitor = (e.dev.lane l).monitor := by
  rcases Ev.lockedClose_cases (w := w) (kept := kept) (q := q) hl with ⟨-, g, h⟩ | ⟨-, h⟩ <;> rw [h]
  · simp [Ev.modIngest]
  · rw [Ev.lockLoss_monitor, Ev.setLaneState_monitor]

/-- Besides a completion the close of the run issues at most a LOCK notice. -/
theorem Ev.lockedClose_notesOf (hl : (e.dev.lane l).ingest.state = .locked) :
    (∃ a, a.length ≤ 1 ∧ (e.lockedClose l w kept q).notesOf 0 = e.notesOf 0 ++ a) ∧
      (e.lockedClose l w kept q).notesOf 1 = e.notesOf 1 := by
  rcases Ev.lockedClose_cases (w := w) (kept := kept) (q := q) hl with ⟨-, g, h⟩ | ⟨-, h⟩ <;> rw [h]
  · exact ⟨⟨[], by simp, by simp⟩, by simp⟩
  · rw [Ev.notesOf_lockLoss_of_ne (by decide), Ev.notesOf_lockLoss_of_ne (by decide), Ev.setLaneState, Ev.notesOf_note,
      Ev.notesOf_note]
    exact ⟨⟨_, by simp [Notice.rank], rfl⟩, by simp [Notice.rank]⟩

/-- A lock loss that names no field leaves no job waiting, and a run that stays LOCKED leaves the jobs. -/
theorem Ev.lockedClose_noneWaiting (hl : (e.dev.lane l).ingest.state = .locked)
    (h : (e.dev.lane l).noneWaiting ∨ ((e.lockedClose l w none q).dev.lane l).ingest.state ≠ .locked) :
    ((e.lockedClose l w none q).dev.lane l).noneWaiting := by
  rcases Ev.lockedClose_cases (w := w) (kept := none) (q := q) hl with ⟨hk, g, he⟩ | ⟨-, he⟩
  · have hn := h.resolve_right fun hx => hx hk
    rw [he]
    simpa [LaneUnit.noneWaiting, Ev.modIngest] using hn
  · rw [he]
    exact Ev.noneWaiting_lockLoss fun _ _ h => nomatch h

theorem Ev.noneWaiting_discontinuity : ((e.discontinuity l q).dev.lane l).noneWaiting := Ev.noneWaiting_readyWaiting _

theorem Ev.discontinuity_monitor :
    ((e.discontinuity l q).dev.lane l).monitor = (e.dev.lane l).monitor.resetTracker := by
  rw [Ev.discontinuity]
  refine Device.monitor_readyWaiting.trans ?_
  unfold Ev.resetTracker Ev.setMonitor
  dsimp only
  split <;> simp

/-- A discontinuity issues its CADENCE notice where the tracker was in FILM (R78, R82). -/
theorem Ev.discontinuity_notesOf : (e.discontinuity l q).notesOf 0 = e.notesOf 0 ∧
    ((e.dev.lane l).monitor.tracker ≠ .video →
      (e.discontinuity l q).notesOf 1 = e.notesOf 1 ++ [.cadence l .video none q]) := by
  rw [Ev.discontinuity, Ev.notesOf_readyWaiting, Ev.notesOf_readyWaiting, Ev.resetTracker,
    Ev.notesOf_setMonitor_of_ne (by decide)]
  refine ⟨rfl, fun h => ?_⟩
  have hx : (e.dev.lane l).monitor.resetTracker.tracker ≠ (e.dev.lane l).monitor.tracker := h.symm
  rw [Ev.setMonitor, if_neg hx, Ev.notesOf_note]
  rfl

/-! ## The close of the open field -/

/-- The event in which the current line of the open field `f` has closed and the field has left the lane (R8, R11). -/
def Ev.lineClosed (e : Ev) (l : Lane) (f : OpenField) : Ev :=
  (e.setDram (closeLine (e.dev.lane l).settings.standard e.dev.dram f).2).modIngest l fun g =>
    { g with
      openField := none
      prevParity := some (closeLine (e.dev.lane l).settings.standard e.dev.dram f).1.parity }

theorem Ev.closeOpenField_eq (hl : (e.dev.lane l).ingest.state = .locked) (hf : (e.dev.lane l).ingest.openField = some f) :
    e.closeOpenField l w q = (e.lineClosed l f).closeLocked l
      (closeLine (e.dev.lane l).settings.standard e.dev.dram f).1 (e.dev.lane l).ingest.prevParity w q := by
  simp only [Ev.closeOpenField, hf, hl]
  rfl

theorem Ev.lineClosed_lane : (e.lineClosed l f).dev.lane l = { e.dev.lane l with
    ingest := { (e.dev.lane l).ingest with openField := none, prevParity := some f.parity } } := by
  simp [Ev.lineClosed, Ev.modIngest]

theorem Ev.lineClosed_fieldStore : (e.lineClosed l f).dev.fieldStore l =
    { e.dev.fieldStore l with dram := (closeLine (e.dev.lane l).settings.standard e.dev.dram f).2 } := by
  rw [Ev.lineClosed, Ev.fieldStore_modIngest]; rfl

end
end Sys2Proof.Machine

/-! SUPPORT. The field that a LOCKED lane loses at a field-start: dropped, discarded, or abandoned at the top of the sequence
counter (R6, R40, R41, R78, R82, R89). -/
namespace Sys2Proof.Machine
section
variable {d d' : Device} {e : Ev} {l : Lane} {i k : SlotId} {s : State} {q r : Nat} {p : Parity} {b w : Bool} {f : OpenField}
  {c : ClosedField} {prev : Option Parity} {kept : Option Nat} {std : Standard} {m : Dram}

/-! ## The close of a lost field -/

/-- The event in which a lost field has been reported as a discontinuity, its words as `m` has them. -/
def Ev.lostField (e : Ev) (l : Lane) (f : OpenField) (m : Dram) : Ev :=
  ((e.lineClosed l f).setDram m).discontinuity l f.sequence

theorem Ev.lostField_fieldStore : (e.lostField l f m).dev.fieldStore l = { e.dev.fieldStore l with dram := m } := by
  rw [Ev.lostField, Ev.fieldStore_discontinuity, Ev.fieldStore_setDram, Ev.lineClosed_fieldStore]

section
variable {x : FieldStore} (h : d.fieldStore l = x)
include h

theorem Device.chain_of_store : (d.lane l).chain = x.chain := congrArg FieldStore.chain h
theorem Device.slot_of_store (k : SlotId) : d.slot k = x.slots[k] := congrArg (fun x => x.slots[k]) h
theorem Device.freeList_of_store : d.freeList = x.freeList := congrArg FieldStore.freeList h
theorem Device.dram_of_store : d.dram = x.dram := congrArg FieldStore.dram h

end

theorem Ev.lostField_chain : ((e.lostField l f m).dev.lane l).chain = (e.dev.lane l).chain :=
  Device.chain_of_store Ev.lostField_fieldStore
theorem Ev.lostField_slot : (e.lostField l f m).dev.slot k = e.dev.slot k := Device.slot_of_store Ev.lostField_fieldStore k
theorem Ev.lostField_freeList : (e.lostField l f m).dev.freeList = e.dev.freeList :=
  Device.freeList_of_store Ev.lostField_fieldStore
theorem Ev.lostField_dram : (e.lostField l f m).dev.dram = m := Device.dram_of_store Ev.lostField_fieldStore

theorem Ev.lostField_ingest : ((e.lostField l f m).dev.lane l).ingest =
    { (e.dev.lane l).ingest with openField := none, prevParity := some f.parity } := by
  rw [Ev.lostField, Ev.discontinuity_ingest, Ev.setDram_dev, Device.setDram_lane, Ev.lineClosed_lane]

theorem Ev.lostField_monitor :
    ((e.lostField l f m).dev.lane l).monitor = (e.dev.lane l).monitor.resetTracker := by
  rw [Ev.lostField, Ev.discontinuity_monitor, Ev.setDram_dev, Device.setDram_lane, Ev.lineClosed_lane]

theorem Ev.lostField_notesOf : (e.lostField l f m).notesOf 0 = e.notesOf 0 ∧
    ((e.dev.lane l).monitor.tracker ≠ .video →
      (e.lostField l f m).notesOf 1 = e.notesOf 1 ++ [.cadence l .video none f.sequence]) := by
  have hm : (((e.lineClosed l f).setDram m).dev.lane l).monitor = (e.dev.lane l).monitor := by
    rw [Ev.setDram_dev, Device.setDram_lane, Ev.lineClosed_lane]
  obtain ⟨h0, h1⟩ := Ev.discontinuity_notesOf (e := (e.lineClosed l f).setDram m) (l := l) (q := f.sequence)
  rw [hm] at h1
  exact ⟨h0, h1⟩

/-- The close of a field that was dropped, or that has the previous parity. -/
theorem Ev.closeOpenField_lost (hl : (e.dev.lane l).ingest.state = .locked)
    (hf : (e.dev.lane l).ingest.openField = some f)
    (h : f.slot = none ∨ (e.dev.lane l).ingest.prevParity = some f.parity) : ∃ m w',
    e.closeOpenField l w q = ⟨(e.lostField l f m).lockedClose l w' none q, f.slot.toList⟩ ∧
      (f.slot = none → m = e.dev.dram) := by
  rw [Ev.closeOpenField_eq hl hf]
  generalize hclose : closeLine (e.dev.lane l).settings.standard e.dev.dram f = x
  have hseq : x.1.sequence = f.sequence := hclose ▸ closeLine_sequence
  have hslot : x.1.slot = f.slot := hclose ▸ closeLine_slot
  have hpar : x.1.parity = f.parity := hclose ▸ closeLine_parity
  cases hs : f.slot with
  | none =>
    have hm : x.2 = e.dev.dram := hclose ▸ (closeLine_of_no_slot (.inr (.inl hs))).2
    have hx : (e.lineClosed l f).setDram e.dev.dram = e.lineClosed l f := by
      rw [Ev.lineClosed, hclose, hm]; rfl
    rw [Ev.closeLocked_dropped (hslot.trans hs), hseq]
    exact ⟨e.dev.dram, _, by rw [Ev.lostField, hx]; rfl, fun _ => rfl⟩
  | some i =>
    have hp := h.resolve_left (by simp [hs])
    rw [Ev.closeLocked_discarded (hslot.trans hs) (hp.trans (congrArg some hpar.symm)), hseq]
    exact ⟨(padField ((e.lineClosed l f).dev.lane l).settings.standard i (e.lineClosed l f).dev.dram x.1).2, false, rfl,
      fun h => nomatch h⟩

/-- The close of a field that the top of the sequence counter abandons. -/
theorem Ev.closeOpenField_abandoned (hl : (e.dev.lane l).ingest.state = .locked)
    (hf : (e.dev.lane l).ingest.openField = some f) (hs : f.slot = some i)
    (hp : (e.dev.lane l).ingest.prevParity ≠ some f.parity) : ∃ m w',
    e.closeOpenField l true q = ⟨((e.lineClosed l f).setDram m).lockedClose l w' none q, [i]⟩ := by
  rw [Ev.closeOpenField_eq hl hf, Ev.closeLocked_abandoned (closeLine_slot.trans hs) (by rw [closeLine_parity]; exact hp)]
  exact ⟨_, _, rfl⟩

/-! ## The lost field, when the new one is open -/

/-- Beyond the close a lane that has not lost its signal frees the closed field's slot alone. -/
theorem ClosedField.release_eq (h : (c.ev.dev.lane l).ingest.state ≠ .noSignal) :
    c.release l q = c.ev.modDev fun d => d.giveBack [] c.freed :=
  if_neg (by rw [Ev.modDev_dev, Device.giveBack_lane]; exact h)

theorem IngestLane.afterLocked_keeps_lastStored (g : IngestLane) (w : Bool) :
    (g.afterLocked w).lastStored = g.lastStored := by
  unfold IngestLane.afterLocked
  repeat' split
  all_goals rfl

/-- The end of a LOCKED lane's field-start below the top of the counter, once the closed field is dealt with: the close of the
run, the slots `g` freed, and the opening. -/
def Ev.reopen (e : Ev) (l : Lane) (w : Bool) (kept : Option Nat) (g : List SlotId) (q : Nat) (p : Parity) (b : Bool) : Ev :=
  ((e.lockedClose l w kept q).modDev fun d => d.giveBack [] g).openNewField l q p b

/-- A LOCKED lane's field-start below the top of the counter. -/
theorem Ev.fieldStart_reopen {e₁ : Ev} {g : List SlotId} (hc : (e.dev.lane l).chain = none)
    (htop : (e.dev.lane l).ingest.sequence ≠ 4294967295) (hl : (e₁.dev.lane l).ingest.state = .locked)
    (hclose : e.closeOpenField l false ((e.dev.lane l).ingest.sequence + 1) =
      ⟨e₁.lockedClose l w kept ((e.dev.lane l).ingest.sequence + 1), g⟩) :
    e.fieldStartEnabled l p b = e₁.reopen l w kept g ((e.dev.lane l).ingest.sequence + 1) p b := by
  rw [Ev.fieldStartEnabled_of_not_top htop, Ev.finishChain_of_none hc, hclose,
    ClosedField.release_eq (Ev.lockedClose_state hl)]
  rfl

theorem Ev.reopen_jobs {g : List SlotId} : ((e.reopen l w kept g q p b).dev.lane l).op.jobs =
    ((e.lockedClose l w kept q).dev.lane l).op.jobs := by
  obtain ⟨h, -⟩ := Ev.openNewField_keeps (l := l) (q := q) (p := p) (b := b)
    (e := (e.lockedClose l w kept q).modDev fun d => d.giveBack [] g)
  rw [Ev.reopen, h, Ev.modDev_dev, Device.giveBack_lane]

section Reopen
variable {g : List SlotId} (hl : (e.dev.lane l).ingest.state = .locked)
include hl

/-- What the end of the field-start leaves of the closed field's traces. -/
theorem Ev.reopen_keeps : ((e.reopen l w kept g q p b).dev.lane l).chain = (e.dev.lane l).chain ∧
    ((e.reopen l w kept g q p b).dev.lane l).monitor = (e.dev.lane l).monitor ∧
    (e.reopen l w kept g q p b).dev.dram = e.dev.dram ∧
    ((e.reopen l w kept g q p b).dev.lane l).ingest.lastStored = (e.dev.lane l).ingest.lastStored ∧
    ((e.reopen l w kept g q p b).dev.lane l).ingest.state = ((e.lockedClose l w kept q).dev.lane l).ingest.state := by
  have hs := Ev.fieldStore_lockedClose (e := e) (l := l) (w := w) (kept := kept) (q := q)
  have hchain := Device.chain_of_fieldStore hs
  have hdram := Device.dram_of_fieldStore hs
  have hmon := Ev.lockedClose_monitor (w := w) (kept := kept) (q := q) hl
  have hlast : ((e.lockedClose l w kept q).dev.lane l).ingest.lastStored = (e.dev.lane l).ingest.lastStored := by
    rw [Ev.lockedClose_ingest, IngestLane.afterLocked_keeps_lastStored]
  unfold Ev.reopen
  generalize e.lockedClose l w kept q = e₁ at hchain hdram hmon hlast ⊢
  have hlane : (e₁.modDev fun d => d.giveBack [] g).dev.lane l = e₁.dev.lane l := Device.giveBack_lane _ _ _ _
  have hwords : (e₁.modDev fun d => d.giveBack [] g).dev.dram = e₁.dev.dram := Device.giveBack_dram _ _ _
  generalize (e₁.modDev fun d => d.giveBack [] g) = e₂ at hlane hwords ⊢
  obtain ⟨-, h2, h3, h4, -⟩ := Ev.openNewField_keeps (e := e₂) (l := l) (q := q) (p := p) (b := b)
  obtain ⟨x, hx⟩ := Ev.openNewField_ingest (e := e₂) (l := l) (q := q) (p := p) (b := b)
  rw [h2, h3, h4, hx, hlane, hwords]
  exact ⟨hchain, hmon, hdram, hlast, rfl⟩

theorem Ev.reopen_notesOf : (∃ a, a.length ≤ 1 ∧ (e.reopen l w kept g q p b).notesOf 0 = e.notesOf 0 ++ a) ∧
    (e.reopen l w kept g q p b).notesOf 1 = e.notesOf 1 := by
  obtain ⟨-, -, -, -, hn⟩ := Ev.openNewField_keeps (l := l) (q := q) (p := p) (b := b)
    (e := (e.lockedClose l w kept q).modDev fun d => d.giveBack [] g)
  obtain ⟨⟨a, ha, h0⟩, h1⟩ := Ev.lockedClose_notesOf (w := w) (kept := kept) (q := q) hl
  exact ⟨⟨a, ha, (hn 0 (by decide)).trans h0⟩, (hn 1 (by decide)).trans h1⟩

omit hl in
/-- A slot that is not at the head of the free list, once `g` is freed, is as `g`'s freeing leaves it. -/
theorem Ev.reopen_slot (h : (e.dev.giveBack [] g).freeList.head? ≠ some i) :
    (e.reopen l w kept g q p b).dev.slot i = (e.dev.giveBack [] g).slot i ∧
      (i ∈ (e.dev.giveBack [] g).freeList → i ∈ (e.reopen l w kept g q p b).dev.freeList) := by
  have hs := Ev.fieldStore_lockedClose (e := e) (l := l) (w := w) (kept := kept) (q := q)
  obtain ⟨hf, -⟩ := (Device.SameSlots.of_fieldStore hs).giveBack g
  rw [← hf] at h ⊢
  have hk : ((e.lockedClose l w kept q).dev.giveBack [] g).slot i = (e.dev.giveBack [] g).slot i := by
    rw [Device.giveBack_slot, Device.giveBack_slot, Device.slot_of_fieldStore hs]
  rw [← hk]
  unfold Ev.reopen
  generalize e.lockedClose l w kept q = e₁ at h ⊢
  have hopen := Ev.openNewField_slot_of_not_head (e := e₁.modDev fun d => d.giveBack [] g) (l := l) (q := q) (p := p)
    (b := b) h
  exact ⟨hopen, fun hm => Ev.mem_openNewField_freeList hm h⟩

end Reopen

/-- Freeing a WRITING slot puts it at the tail of a free list that is not empty. -/
theorem Device.giveBack_writing_tail (hw : (d.slot i).state = .writing) (hi : i ∉ d.freeList) (hne : d.freeList ≠ []) :
    (d.giveBack [] [i]).freeList.head? ≠ some i ∧ i ∈ (d.giveBack [] [i]).freeList ∧
      (d.giveBack [] [i]).slot i = Slot.empty := by
  rw [Device.giveBack_writing_freeList hw, Device.giveBack_writing_slot i hw]
  obtain ⟨j, rest, hf⟩ := List.exists_cons_of_ne_nil hne
  refine ⟨?_, by simp, if_pos rfl⟩
  rw [hf] at hi ⊢
  simp only [List.cons_append, List.head?_cons, ne_eq, Option.some.injEq]
  exact fun h => hi (h ▸ List.mem_cons_self)

/-- A field-start below the top of the counter, where the field was dropped or is discarded (R40, R41, R78, R82, R89). -/
theorem Ev.fieldStart_lost (hc : (e.dev.lane l).chain = none) (hl : (e.dev.lane l).ingest.state = .locked)
    (hf : (e.dev.lane l).ingest.openField = some f) (htop : (e.dev.lane l).ingest.sequence ≠ 4294967295)
    (h : f.slot = none ∨ (e.dev.lane l).ingest.prevParity = some f.parity) :
    (((e.fieldStartEnabled l p b).dev.lane l).chain = none ∧ ((e.fieldStartEnabled l p b).dev.lane l).noneWaiting) ∧
    (((e.fieldStartEnabled l p b).dev.lane l).monitor = (e.dev.lane l).monitor.resetTracker ∧
      ((e.fieldStartEnabled l p b).dev.lane l).ingest.lastStored = (e.dev.lane l).ingest.lastStored ∧
      ((e.dev.lane l).monitor.tracker ≠ .video → ∃ a, a.length ≤ 1 ∧
        (e.fieldStartEnabled l p b).notesOf 0 = e.notesOf 0 ++ a ∧
        (e.fieldStartEnabled l p b).notesOf 1 = e.notesOf 1 ++ [.cadence l .video none f.sequence])) ∧
    (f.slot = none → (e.fieldStartEnabled l p b).dev.dram = e.dev.dram) ∧
    ∀ i, f.slot = some i → (e.dev.slot i).state = .writing → i ∉ e.dev.freeList → e.dev.freeList ≠ [] →
      (e.fieldStartEnabled l p b).dev.slot i = Slot.empty ∧ i ∈ (e.fieldStartEnabled l p b).dev.freeList := by
  obtain ⟨m, w', hclose, hm⟩ := Ev.closeOpenField_lost (w := false) (q := (e.dev.lane l).ingest.sequence + 1) hl hf h
  have hl₁ : ((e.lostField l f m).dev.lane l).ingest.state = .locked := by rw [Ev.lostField_ingest]; exact hl
  rw [Ev.fieldStart_reopen hc htop hl₁ hclose]
  generalize (e.dev.lane l).ingest.sequence + 1 = q
  have hchain := Ev.lostField_chain (e := e) (l := l) (f := f) (m := m)
  have hslot := fun k => Ev.lostField_slot (e := e) (l := l) (f := f) (m := m) (k := k)
  have hfree := Ev.lostField_freeList (e := e) (l := l) (f := f) (m := m)
  have hdram := Ev.lostField_dram (e := e) (l := l) (f := f) (m := m)
  have hmon := Ev.lostField_monitor (e := e) (l := l) (f := f) (m := m)
  have hlast := congrArg IngestLane.lastStored (Ev.lostField_ingest (e := e) (l := l) (f := f) (m := m))
  obtain ⟨hd0, hd1⟩ := Ev.lostField_notesOf (e := e) (l := l) (f := f) (m := m)
  have hwait : ((e.lostField l f m).dev.lane l).noneWaiting := Ev.noneWaiting_discontinuity
  clear hclose
  generalize e.lostField l f m = e₁ at *
  obtain ⟨h1, h2, h3, h4, -⟩ :=
    Ev.reopen_keeps (w := w') (kept := none) (g := f.slot.toList) (q := q) (p := p) (b := b) hl₁
  obtain ⟨⟨a, ha, hn0⟩, hn1⟩ :=
    Ev.reopen_notesOf (w := w') (kept := none) (g := f.slot.toList) (q := q) (p := p) (b := b) hl₁
  refine ⟨⟨h1.trans (hchain.trans hc), ?_⟩, ⟨h2.trans hmon, h4.trans hlast, fun hv =>
      ⟨a, ha, hn0.trans (by rw [hd0]), hn1.trans (hd1 hv)⟩⟩,
    fun hs => h3.trans (hdram.trans (hm hs)), fun i hs hw hi hne => ?_⟩
  · unfold LaneUnit.noneWaiting
    rw [Ev.reopen_jobs]
    exact Ev.lockedClose_noneWaiting hl₁ (.inl hwait)
  · obtain ⟨t1, t2, t3⟩ := Device.giveBack_writing_tail (d := e₁.dev) (i := i) (by rw [hslot, hw])
      (by rw [hfree]; exact hi) (by rw [hfree]; exact hne)
    rw [hs]
    obtain ⟨r1, r2⟩ := Ev.reopen_slot (w := w') (kept := none) (q := q) (p := p) (b := b) (l := l) t1
    exact ⟨r1.trans t3, r2 t2⟩

end
end Sys2Proof.Machine

/-! SUPPORT. The field that a LOCKED lane keeps at a field-start: the words and the record that it is handed off with (R11, R13),
and the field-start at the top of the counter, which keeps none (R6). -/
namespace Sys2Proof.Machine
section
variable {d d' : Device} {e : Ev} {l : Lane} {i k : SlotId} {s : State} {q r : Nat} {p : Parity} {b w : Bool} {f : OpenField}
  {c : ClosedField} {prev : Option Parity} {kept : Option Nat} {std : Standard} {m : Dram}

/-! ## Padding (R11) -/

/-- One missing line of slot `i` is black. -/
def blackLine (i : SlotId) (m : Dram) (line : Nat) : Dram := m.writeRun (fieldAddr i line 0) (blackRun 0 1440)

/-- Padding is the run builder's and the writer's work side by side. -/
theorem foldl_padLine (ys : List Nat) (spans : List Span) (m : Dram) : ys.foldl (padLine i) (spans, m) =
    (ys.foldl (fun x y => buildLine y (List.range 1440) x) spans, ys.foldl (blackLine i) m) := by
  induction ys generalizing spans m with
  | nil => rfl
  | cons y ys ih => rw [List.foldl_cons, List.foldl_cons, List.foldl_cons, padLine, ih]; rfl

theorem padField_eq : padField std i m f =
    ({ f with
        spans := (List.range' f.lines (std.lines - f.lines)).foldl (fun x y => buildLine y (List.range 1440) x) f.spans
        malformed := f.malformed || decide (f.lines ≠ std.lines) },
      (List.range' f.lines (std.lines - f.lines)).foldl (blackLine i) m) := by
  simp only [padField, foldl_padLine]

theorem fieldAddr_line {y y' x x' : Nat} (hx : x < 1440) (hx' : x' < 1440) (h : fieldAddr i y x = fieldAddr i y' x') :
    y = y' := by
  unfold fieldAddr at h; omega

theorem read_blackLine_of_ne {y a : Nat} (h : ∀ x, x < 1440 → a ≠ fieldAddr i y x) :
    (blackLine i m y).read a = m.read a := Dram.read_blackRun_of_ne (w := 0) fun x _ hx => h x hx

theorem read_blackLines_of_ne {a : Nat} (ys : List Nat) (m : Dram)
    (h : ∀ y ∈ ys, ∀ x, x < 1440 → a ≠ fieldAddr i y x) : (ys.foldl (blackLine i) m).read a = m.read a := by
  induction ys generalizing m with
  | nil => rfl
  | cons y ys ih =>
    rw [List.foldl_cons, ih _ fun z hz => h z (List.mem_cons_of_mem _ hz),
      read_blackLine_of_ne (h y List.mem_cons_self)]

theorem read_blackLines {y x : Nat} (hx : x < 1440) (ys : List Nat) (m : Dram) (hy : y ∈ ys) :
    (ys.foldl (blackLine i) m).read (fieldAddr i y x) = blackWord x := by
  induction ys generalizing m with
  | nil => cases hy
  | cons z ys ih =>
    rw [List.foldl_cons]
    by_cases hmem : y ∈ ys
    · exact ih _ hmem
    · obtain rfl := (List.mem_cons.1 hy).resolve_right hmem
      rw [read_blackLines_of_ne ys _ fun z hz x' hx' ha => hmem (by rw [fieldAddr_line hx hx' ha]; exact hz)]
      exact Dram.read_blackRun (Nat.zero_le x) hx

/-! ## The kept field -/

/-- A field as it closes: its current line closed, its missing lines padded. -/
def OpenField.finished (f : OpenField) (std : Standard) (i : SlotId) (m : Dram) : OpenField × Dram :=
  padField std i (closeLine std m f).2 (closeLine std m f).1

/-- The words of a field's slot that did not arrive: those of its missing lines, and the missing ones of its last line. -/
def OpenField.missing (f : OpenField) (std : Standard) (y x : Nat) : Prop :=
  (f.lines ≤ y ∧ y < std.lines) ∨ (f.lineOpen = true ∧ y = f.lines - 1 ∧ y < std.lines ∧ f.words ≤ x)

theorem OpenField.finished_dram : (f.finished std i m).2 =
    (List.range' f.lines (std.lines - f.lines)).foldl (blackLine i) (closeLine std m f).2 := by
  rw [OpenField.finished, padField_eq, closeLine_lines]

/-- The missing words are black (R11). -/
theorem OpenField.read_finished_missing (hs : f.slot = some i) {y x : Nat} (hx : x < 1440) (h : f.missing std y x) :
    (f.finished std i m).2.read (fieldAddr i y x) = if x % 2 = 1 then 64 else 512 := by
  rw [OpenField.finished_dram, ← blackWord_eq]
  by_cases hy : f.lines ≤ y ∧ y < std.lines
  · exact read_blackLines hx _ _ (List.mem_range'_1.2 (by omega))
  · obtain ⟨ho, rfl, hlt, hw⟩ := h.resolve_left hy
    rw [read_blackLines_of_ne, read_closeLine_black ho hs hlt hw hx, blackWord_eq]
    intro z hz x' hx' ha
    have hz' := List.mem_range'_1.1 hz
    have := fieldAddr_line hx hx' ha
    omega

/-- Every other container reads as before. -/
theorem OpenField.read_finished_of_ne (hs : f.slot = some i) {a : Nat}
    (h : ∀ y x, x < 1440 → f.missing std y x → a ≠ fieldAddr i y x) : (f.finished std i m).2.read a = m.read a := by
  rw [OpenField.finished_dram, read_blackLines_of_ne, read_closeLine_of_ne]
  · intro j x hj ho hlt hw hx
    obtain rfl : i = j := by simpa [hs] using hj
    exact h _ x hx (.inr ⟨ho, rfl, hlt, hw⟩)
  · intro y hy x hx
    have hy' := List.mem_range'_1.1 hy
    exact h y x hx (.inl (by omega))

/-- The runs of the line that was open when the field closed have joined its list (R15). -/
theorem closeLine_spans (hs : f.slot = some i) : (closeLine std m f).1.spans =
    if f.lineOpen = true ∧ f.lines - 1 < std.lines
    then buildLine (f.lines - 1) (f.flagged ++ List.range' f.words (1440 - f.words)) f.spans else f.spans := by
  split
  · rename_i h
    exact (closeLine_of_slot h.1 hs h.2).1
  · rename_i h
    refine (closeLine_of_no_slot ?_).1
    by_cases ho : f.lineOpen = true
    · exact .inr (.inr (Nat.not_lt.1 fun hlt => h ⟨ho, hlt⟩))
    · exact .inl (by simpa using ho)

/-- The record that the field is handed off with (R13). -/
theorem OpenField.finished_handOff (hs : f.slot = some i) (disc : Bool) : (f.finished std i m).1.handOff disc =
    { FieldRecord.fresh f.sequence f.parity f.held with
      malformed := f.malformed || (f.lineOpen && decide (f.words < 1440)) || decide (f.lines ≠ std.lines)
      discontinuity := disc
      label := f.label
      spans := (List.range' f.lines (std.lines - f.lines)).foldl (fun x y => buildLine y (List.range 1440) x)
        (if f.lineOpen = true ∧ f.lines - 1 < std.lines
          then buildLine (f.lines - 1) (f.flagged ++ List.range' f.words (1440 - f.words)) f.spans else f.spans) } := by
  rw [OpenField.finished, padField_eq, ← closeLine_spans (m := m) hs, OpenField.handOff]
  simp only [closeLine_sequence, closeLine_parity, closeLine_held, closeLine_label, closeLine_malformed, closeLine_lines]

/-- The discontinuity mark of a kept field: the last stored sequence is not the one before (R13). -/
def IngestLane.jumps (g : IngestLane) (n : Nat) : Bool := decide (g.lastStored.map (· + 1) ≠ some n)

theorem IngestLane.jumps_eq (g : IngestLane) (n : Nat) :
    g.jumps n = (match g.lastStored with | none => true | some q => decide (q + 1 ≠ n)) := by
  unfold IngestLane.jumps
  cases g.lastStored <;> simp

/-- The event in which the open field has been kept, before the run closes (R13). -/
def Ev.fieldKept (e : Ev) (l : Lane) (i : SlotId) (f : OpenField) : Ev :=
  ((e.lineClosed l f).setDram (f.finished (e.dev.lane l).settings.standard i e.dev.dram).2).keepField l i
    (f.finished (e.dev.lane l).settings.standard i e.dev.dram).1

theorem Ev.closeOpenField_kept (hl : (e.dev.lane l).ingest.state = .locked)
    (hf : (e.dev.lane l).ingest.openField = some f) (hs : f.slot = some i)
    (hp : (e.dev.lane l).ingest.prevParity ≠ some f.parity) : ∃ w',
    e.closeOpenField l false q = ⟨(e.fieldKept l i f).lockedClose l w' (some f.sequence) q, []⟩ := by
  have hset : ((e.lineClosed l f).dev.lane l).settings = (e.dev.lane l).settings := by rw [Ev.lineClosed_lane]
  have hdram : (e.lineClosed l f).dev.dram = (closeLine (e.dev.lane l).settings.standard e.dev.dram f).2 :=
    Device.dram_of_store Ev.lineClosed_fieldStore
  have hpad : (e.lineClosed l f).padded l i (closeLine (e.dev.lane l).settings.standard e.dev.dram f).1 =
      (e.lineClosed l f).setDram (f.finished (e.dev.lane l).settings.standard i e.dev.dram).2 := by
    rw [Ev.padded, hset, hdram, OpenField.finished]
  rw [Ev.closeOpenField_eq hl hf, Ev.closeLocked_kept (closeLine_slot.trans hs) (by rw [closeLine_parity]; exact hp), hpad,
    hset, hdram, closeLine_sequence]
  exact ⟨_, rfl⟩

theorem Ev.fieldKept_lane : (e.fieldKept l i f).dev.lane l = { e.dev.lane l with
    chain := some ⟨.repair, i⟩
    ingest := { (e.dev.lane l).ingest with
      openField := none, prevParity := some f.parity, lastStored := some f.sequence } } := by
  have hseq : (f.finished (e.dev.lane l).settings.standard i e.dev.dram).1.sequence = f.sequence := by
    rw [OpenField.finished, padField_eq]; exact closeLine_sequence
  simp [Ev.fieldKept, Ev.keepField, Ev.setChain, Ev.modIngest, Ev.lineClosed_lane, hseq]

theorem Ev.fieldStore_keepField : (e.keepField l i f).dev.fieldStore l = { e.dev.fieldStore l with
    slots := (e.dev.modRecord i fun _ => f.handOff ((e.dev.lane l).ingest.jumps f.sequence)).slots
    chain := some ⟨.repair, i⟩ } := by
  rw [Ev.keepField, Ev.fieldStore_setChain, Ev.fieldStore_modIngest]; rfl

theorem Device.modRecord_slot_self (g : FieldRecord → FieldRecord) :
    (d.modRecord i g).slot i = { d.slot i with record := (d.slot i).record.map g } := Device.slot_setSlot_self _ _ _

theorem Ev.fieldKept_store : (e.fieldKept l i f).dev.dram = (f.finished (e.dev.lane l).settings.standard i e.dev.dram).2 ∧
    (e.fieldKept l i f).dev.freeList = e.dev.freeList ∧
    (e.fieldKept l i f).dev.slot i = { e.dev.slot i with record := (e.dev.slot i).record.map fun _ =>
      (f.finished (e.dev.lane l).settings.standard i e.dev.dram).1.handOff ((e.dev.lane l).ingest.jumps f.sequence) } := by
  have hseq : (f.finished (e.dev.lane l).settings.standard i e.dev.dram).1.sequence = f.sequence := by
    rw [OpenField.finished, padField_eq]; exact closeLine_sequence
  have hfree : (e.lineClosed l f).dev.freeList = e.dev.freeList := Device.freeList_of_store Ev.lineClosed_fieldStore
  have hslot : (e.lineClosed l f).dev.slot i = e.dev.slot i := Device.slot_of_store Ev.lineClosed_fieldStore i
  have hing : ((e.lineClosed l f).dev.lane l).ingest.jumps f.sequence = (e.dev.lane l).ingest.jumps f.sequence := by
    rw [Ev.lineClosed_lane]; rfl
  unfold Ev.fieldKept
  generalize f.finished (e.dev.lane l).settings.standard i e.dev.dram = x at hseq ⊢
  generalize e.lineClosed l f = e₁ at hfree hslot hing ⊢
  have hst := Ev.fieldStore_keepField (e := e₁.setDram x.2) (l := l) (i := i) (f := x.1)
  refine ⟨Device.dram_of_store hst, (Device.freeList_of_store hst).trans hfree, ?_⟩
  refine (Device.slot_of_store hst i).trans ((Device.modRecord_slot_self _).trans ?_)
  rw [Ev.setDram_dev, Device.setDram_slot, Device.setDram_lane, hseq, hing, hslot]

end
end Sys2Proof.Machine

/-! SUPPORT. The field-start of a LOCKED lane in its two ends: the field kept below the top of the counter, and none at the top
(R6, R11, R13, R89). -/
namespace Sys2Proof.Machine
section
variable {d : Device} {e : Ev} {l : Lane} {i : SlotId} {s : State} {q : Nat} {p : Parity} {b w : Bool} {f : OpenField}
  {m : Dram} {freed : List SlotId} {j : Job}

/-! ## The kept field, when the new one is open -/

/-- A lock loss that names the kept field leaves the job that waits for it, and no other waits on (R89). -/
theorem Ev.lockedClose_jobs (hl : (e.dev.lane l).ingest.state = .locked) (n : Nat) :
    (((e.lockedClose l w (some n) q).dev.lane l).ingest.state = .locked →
      ((e.lockedClose l w (some n) q).dev.lane l).op.jobs = (e.dev.lane l).op.jobs) ∧
    (((e.lockedClose l w (some n) q).dev.lane l).ingest.state ≠ .locked → ∀ j, e.dev.waitingJob l = some j →
      (j.sequence + 1 = n → ((e.lockedClose l w (some n) q).dev.lane l).op.jobs = (e.dev.lane l).op.jobs) ∧
      (j.sequence + 1 ≠ n → ((e.lockedClose l w (some n) q).dev.lane l).noneWaiting)) := by
  have hop := Ev.setLaneState_op (e := e) (l := l) (q := q) (x := .seeking)
  rcases Ev.lockedClose_cases (w := w) (kept := some n) (q := q) hl with ⟨hk, g, he⟩ | ⟨hk, he⟩
  · refine ⟨fun _ => ?_, fun h => absurd hk h⟩
    rw [he]
    simp [Ev.modIngest]
  · refine ⟨fun h => absurd (hk.symm.trans h) (by decide), fun _ j hj => ?_⟩
    have hj' : (e.setLaneState l .seeking q).dev.waitingJob l = some j := by rw [Device.waitingJob, hop]; exact hj
    rw [he]
    refine ⟨fun hn => (Ev.lockLoss_jobs_of_kept hj' (congrArg some hn.symm)).trans (by rw [hop]), fun hn => ?_⟩
    refine Ev.noneWaiting_lockLoss fun j' hj'' hx => hn ?_
    obtain rfl : j = j' := Option.some.inj (hj'.symm.trans hj'')
    exact (Option.some.inj hx).symm

/-- A field-start below the top of the counter, where the field is kept (R11, R13, R89). -/
theorem Ev.fieldStart_kept (hc : (e.dev.lane l).chain = none) (hl : (e.dev.lane l).ingest.state = .locked)
    (hf : (e.dev.lane l).ingest.openField = some f) (htop : (e.dev.lane l).ingest.sequence ≠ 4294967295)
    (hs : f.slot = some i) (hp : (e.dev.lane l).ingest.prevParity ≠ some f.parity) (hi : i ∉ e.dev.freeList) :
    (((e.fieldStartEnabled l p b).dev.lane l).chain = some ⟨.repair, i⟩ ∧
      (e.fieldStartEnabled l p b).dev.slot i = { e.dev.slot i with record := (e.dev.slot i).record.map fun _ =>
        (f.finished (e.dev.lane l).settings.standard i e.dev.dram).1.handOff ((e.dev.lane l).ingest.jumps f.sequence) } ∧
      (e.fieldStartEnabled l p b).dev.dram = (f.finished (e.dev.lane l).settings.standard i e.dev.dram).2) ∧
    (((e.fieldStartEnabled l p b).dev.lane l).ingest.lastStored = some f.sequence ∧
      ((e.fieldStartEnabled l p b).dev.lane l).monitor = (e.dev.lane l).monitor) ∧
    (((e.fieldStartEnabled l p b).dev.lane l).ingest.state = .locked →
      ((e.fieldStartEnabled l p b).dev.lane l).op.jobs = (e.dev.lane l).op.jobs) ∧
    (((e.fieldStartEnabled l p b).dev.lane l).ingest.state ≠ .locked → ∀ j, e.dev.waitingJob l = some j →
      (j.sequence + 1 = f.sequence → ((e.fieldStartEnabled l p b).dev.lane l).op.jobs = (e.dev.lane l).op.jobs) ∧
      (j.sequence + 1 ≠ f.sequence → ((e.fieldStartEnabled l p b).dev.lane l).noneWaiting)) := by
  obtain ⟨w', hclose⟩ := Ev.closeOpenField_kept (q := (e.dev.lane l).ingest.sequence + 1) hl hf hs hp
  have hlane := Ev.fieldKept_lane (e := e) (l := l) (i := i) (f := f)
  have hl₁ : ((e.fieldKept l i f).dev.lane l).ingest.state = .locked := by rw [hlane]; exact hl
  rw [Ev.fieldStart_reopen hc htop hl₁ hclose]
  clear hclose
  generalize (e.dev.lane l).ingest.sequence + 1 = q
  obtain ⟨hdram, hfree, hslot⟩ := Ev.fieldKept_store (e := e) (l := l) (i := i) (f := f)
  generalize e.fieldKept l i f = e₁ at *
  obtain ⟨h1, h2, h3, h4, h5⟩ :=
    Ev.reopen_keeps (w := w') (kept := some f.sequence) (g := []) (q := q) (p := p) (b := b) hl₁
  have hjobs := Ev.reopen_jobs (e := e₁) (l := l) (w := w') (kept := some f.sequence) (g := []) (q := q) (p := p) (b := b)
  obtain ⟨k1, k2⟩ := Ev.lockedClose_jobs (w := w') (q := q) hl₁ f.sequence
  obtain ⟨h6, -⟩ := Ev.reopen_slot (e := e₁) (l := l) (w := w') (kept := some f.sequence) (g := []) (q := q) (p := p)
    (b := b) (i := i) fun h => hi (by
      rw [Device.giveBack_nil, hfree] at h
      exact List.mem_of_head? h)
  rw [Device.giveBack_nil] at h6
  have hop : (e₁.dev.lane l).op = (e.dev.lane l).op := by rw [hlane]
  have hsame := congrArg Controller.jobs hop
  have hwait : e₁.dev.waitingJob l = e.dev.waitingJob l := by rw [Device.waitingJob, hop]; rfl
  have hchain := congrArg LaneUnit.chain hlane
  have hlast := congrArg (fun u => u.ingest.lastStored) hlane
  have hmon := congrArg LaneUnit.monitor hlane
  rw [hwait] at k2
  refine ⟨⟨h1.trans hchain, h6.trans hslot, h3.trans hdram⟩, ⟨h4.trans hlast, h2.trans hmon⟩,
    fun h => hjobs.trans ((k1 (h5.symm.trans h)).trans hsame), fun h j hj => ?_⟩
  obtain ⟨k3, k4⟩ := k2 (fun hx => h (h5.trans hx)) j hj
  refine ⟨fun hn => hjobs.trans ((k3 hn).trans hsame), fun hn => ?_⟩
  unfold LaneUnit.noneWaiting
  rw [hjobs]
  exact k4 hn

/-! ## The top of the sequence counter (R6) -/

theorem Ev.lineClosed_setDram_store :
    ((e.lineClosed l f).setDram m).dev.fieldStore l = { e.dev.fieldStore l with dram := m } := by
  rw [Ev.fieldStore_setDram, Ev.lineClosed_fieldStore]

/-- At the top of the counter no field is kept: the close's lock loss names none, and frees the closed field's slot. -/
theorem Ev.closeOpenField_wrapped (hl : (e.dev.lane l).ingest.state = .locked)
    (hf : (e.dev.lane l).ingest.openField = some f) : ∃ (e₁ : Ev) (m : Dram) (w' : Bool),
    e.closeOpenField l true q = ⟨e₁.lockedClose l w' none q, f.slot.toList⟩ ∧
      (e₁.dev.lane l).ingest.state = .locked ∧ e₁.dev.fieldStore l = { e.dev.fieldStore l with dram := m } ∧
      (f.slot = none → m = e.dev.dram) := by
  by_cases h : f.slot = none ∨ (e.dev.lane l).ingest.prevParity = some f.parity
  · obtain ⟨m, w', h1, h2⟩ := Ev.closeOpenField_lost (w := true) (q := q) hl hf h
    exact ⟨e.lostField l f m, m, w', h1, by rw [Ev.lostField_ingest]; exact hl, Ev.lostField_fieldStore, h2⟩
  · rw [not_or] at h
    obtain ⟨hs, hp⟩ := h
    obtain ⟨i, hi⟩ := Option.ne_none_iff_exists'.1 hs
    obtain ⟨m, w', h1⟩ := Ev.closeOpenField_abandoned (q := q) hl hf hi hp
    refine ⟨(e.lineClosed l f).setDram m, m, w', by rw [h1, hi]; rfl, ?_, Ev.lineClosed_setDram_store, fun h => absurd h hs⟩
    rw [Ev.setDram_dev, Device.setDram_lane, Ev.lineClosed_lane]; exact hl

/-- What the re-entry leaves of the part (R6, R46): the slots of the window and of the closed field are given back. -/
theorem Ev.reenterLane_store : ((e.reenterLane l freed).dev.lane l).chain = (e.dev.lane l).chain ∧
    (e.reenterLane l freed).dev.dram = e.dev.dram ∧
    (∀ i, i ∈ freed → (e.dev.slot i).state = .writing →
      (e.reenterLane l freed).dev.slot i = Slot.empty ∧ i ∈ (e.reenterLane l freed).dev.freeList) := by
  have hb := Ev.reenterLane_beside (e := e) (l := l) (freed := freed)
  have hdram : (e.reentered l freed).dev.dram = e.dev.dram := by
    rw [Ev.reentered, Ev.enableLane_dev, Device.modLane_dram, Ev.modDev_dev, Device.giveBack_dram]; rfl
  refine ⟨(Device.chain_of_beside hb l).trans (by rw [Ev.reentered_lane]), (Device.dram_of_beside hb).trans hdram,
    fun i hi hw => ?_⟩
  have hgive (d : Device) (refs : List SlotId) (hd : (d.slot i).state = .writing) :
      (d.giveBack refs freed).slot i = Slot.empty ∧ i ∈ (d.giveBack refs freed).freeList := by
    rw [Device.giveBack_slot, if_pos (.inl ⟨hi, hd⟩), Device.giveBack_freeList]
    exact ⟨rfl, List.mem_append_right _ ((Device.mem_given _ _ _ _).2 (.inl ⟨hi, hd⟩))⟩
  rw [Device.slot_of_beside hb, Device.freeList_of_beside hb, Ev.reentered, Ev.enableLane_dev, Device.modLane_slot,
    Device.modLane_freeList]
  exact hgive _ _ hw

/-- After the re-entry no job waits on where the close left none waiting, or where the lane was LOCKED (R89). -/
theorem Ev.reenterLane_noneWaiting
    (h : (e.dev.lane l).ingest.state = .locked ∨ (e.dev.lane l).noneWaiting) :
    ((e.reenterLane l freed).dev.lane l).noneWaiting := by
  rw [Ev.reenterLane_eq]
  split
  · exact Ev.noneWaiting_lockLoss fun _ _ h => nomatch h
  · have hn := h.resolve_left ‹_›
    rw [Ev.reentered_lane]
    exact hn

/-- A field-start at the top of the counter: no field is kept (R6). -/
theorem Ev.fieldStart_wrapped (hc : (e.dev.lane l).chain = none) (hl : (e.dev.lane l).ingest.state = .locked)
    (hf : (e.dev.lane l).ingest.openField = some f) (htop : (e.dev.lane l).ingest.sequence = 4294967295) :
    (((e.fieldStartEnabled l p b).dev.lane l).chain = none ∧ ((e.fieldStartEnabled l p b).dev.lane l).noneWaiting) ∧
    (f.slot = none → (e.fieldStartEnabled l p b).dev.dram = e.dev.dram) ∧
    ∀ i, f.slot = some i → (e.dev.slot i).state = .writing →
      (e.fieldStartEnabled l p b).dev.slot i = Slot.empty ∧ i ∈ (e.fieldStartEnabled l p b).dev.freeList := by
  obtain ⟨e₁, m, w', hclose, hl₁, hst, hm⟩ := Ev.closeOpenField_wrapped (q := 1) hl hf
  rw [Ev.fieldStartEnabled_of_top htop, Ev.finishChain_of_none hc, hclose]
  clear hclose
  have hst' := (Ev.fieldStore_lockedClose (w := w') (kept := none) (q := 1)).trans hst
  have hchain := (Device.chain_of_store hst').trans hc
  have hdram := Device.dram_of_store hst'
  have hslot := Device.slot_of_store hst'
  have hwait : ((e₁.lockedClose l w' none 1).dev.lane l).ingest.state = .locked ∨
      ((e₁.lockedClose l w' none 1).dev.lane l).noneWaiting :=
    or_iff_not_imp_left.2 fun h => Ev.lockedClose_noneWaiting hl₁ (.inr h)
  generalize e₁.lockedClose l w' none 1 = e₂ at hchain hdram hslot hwait ⊢
  obtain ⟨r1, r2, r3⟩ := Ev.reenterLane_store (e := e₂) (l := l) (freed := f.slot.toList)
  have hnone := Ev.reenterLane_noneWaiting (freed := f.slot.toList) hwait
  have hstate : ((e₂.reenterLane l f.slot.toList).dev.lane l).ingest.state ≠ .locked := by
    rw [Ev.reenterLane_ingest]; decide
  generalize e₂.reenterLane l f.slot.toList = e₃ at *
  obtain ⟨h1, -, h3, h4, -⟩ := Ev.openNewField_keeps (e := e₃) (l := l) (q := 1) (p := p) (b := b)
  have hopen := Ev.fieldStore_openedField (e := e₃) (l := l) (q := 1) (p := p) (b := b)
  rw [← Ev.openNewField_of_not_locked hstate] at hopen
  refine ⟨⟨h3.trans (r1.trans hchain), ?_⟩, fun hs => h4.trans (r2.trans (hdram.trans (hm hs))), fun i hs hw => ?_⟩
  · unfold LaneUnit.noneWaiting
    rw [h1]
    exact hnone
  · obtain ⟨t1, t2⟩ := r3 i (by rw [hs]; exact List.mem_singleton_self i) (by rw [hslot]; exact hw)
    rw [Device.slot_of_fieldStore hopen, Device.freeList_of_fieldStore hopen]
    exact ⟨t1, t2⟩

/-! ## The obligation -/

/-- An event whose CADENCE notice stands behind at most one LOCK notice: it joins where one more place than one is left
(R169, R170). -/
theorem State.cadence_joins {f : Ev → Ev} {n : Notice} {a : List Notice} (ha : a.length ≤ 1)
    (h0 : (f (Ev.start s.dev)).notesOf 0 = a) (h1 : (f (Ev.start s.dev)).notesOf 1 = [n]) (hn : n.rank ≠ 3)
    (hm : (f (Ev.start s.dev)).dev.handler.mask.enables n = true) (hg : s.link.generals < 7) :
    ∃ x y, (s.event f).link.outbound = s.link.outbound ++ x ++ ⟨.notice n, none⟩ :: y := by
  have ho : orderNotices (f (Ev.start s.dev)).notes =
      a ++ n :: ((f (Ev.start s.dev)).notesOf 2 ++ (f (Ev.start s.dev)).notesOf 3) := by
    rw [orderNotices_notes, h0, h1]; simp
  obtain ⟨x, y, -, h⟩ := Ev.commit_joins (k := s.link) ho hn hm (by omega)
  exact ⟨x, y, h⟩

/-- What the end of an event leaves of the part as its work made it. -/
theorem State.event_leaves (s : State) (f : Ev → Ev) (l : Lane) :
    ((s.event f).dev.lane l).chain = ((f (Ev.start s.dev)).dev.lane l).chain ∧
      ((s.event f).dev.lane l).ingest = ((f (Ev.start s.dev)).dev.lane l).ingest ∧
      ((s.event f).dev.lane l).monitor = ((f (Ev.start s.dev)).dev.lane l).monitor ∧
      ((s.event f).dev.lane l).op.jobs = ((f (Ev.start s.dev)).dev.lane l).op.jobs ∧
      (s.event f).dev.dram = (f (Ev.start s.dev)).dev.dram ∧
      (s.event f).dev.freeList = (f (Ev.start s.dev)).dev.freeList ∧
      ∀ i, (s.event f).dev.slot i = (f (Ev.start s.dev)).dev.slot i := by
  have hb := s.event_beside f
  exact ⟨Device.chain_of_beside hb l, Device.ingest_of_beside hb l, s.event_monitor f l, s.event_jobs f l,
    Device.dram_of_beside hb, Device.freeList_of_beside hb, Device.slot_of_beside hb⟩

theorem Ev.handler_of_outside {e' : Ev} (h : e'.outside l = e.outside l) : e'.dev.handler = e.dev.handler :=
  congrArg (fun o => o.1.1) h

theorem Ev.fieldStart_handler : (e.fieldStartEnabled l p b).dev.handler = e.dev.handler :=
  Ev.handler_of_outside (Ev.outside_fieldStartEnabled p b)

/-- Settles O9: a case for each way in which the open field leaves a LOCKED lane: lost, kept, or met by the top of the
counter. -/
theorem lockedFieldIsKeptOrDiscarded : Obligations.LockedFieldIsKeptOrDiscarded := by
  intro s l p h g f lines hg hl hf hc hlines
  subst hg
  replace hlines : lines = (s.dev.lane l).settings.standard.lines := hlines
  obtain ⟨hchain, hing, hmon, hjobs, hdram, hfree, hslot⟩ := s.event_leaves (fun e => e.fieldStartEnabled l p h) l
  refine ⟨_, exec_fieldStart (by rw [hl]; decide), ?_⟩
  by_cases htop : (s.dev.lane l).ingest.sequence = 4294967295
  · obtain ⟨⟨k1, k2⟩, k3, k4⟩ := Ev.fieldStart_wrapped (e := Ev.start s.dev) (p := p) (b := h) hc hl hf htop
    generalize (s.event fun e => e.fieldStartEnabled l p h) = t at *
    generalize (Ev.start s.dev).fieldStartEnabled l p h = e at *
    refine ⟨fun _ => ⟨hchain.trans k1, by rw [hjobs]; exact k2⟩, fun hx => absurd htop hx,
      fun hs => hdram.trans (k3 hs), fun i hs hw _ _ => ?_, fun i _ _ hx => absurd htop hx⟩
    obtain ⟨t1, t2⟩ := k4 i hs hw
    exact ⟨(hslot i).trans t1, by rw [hfree]; exact t2⟩
  by_cases hlost : f.slot = none ∨ (s.dev.lane l).ingest.prevParity = some f.parity
  · obtain ⟨⟨k1, k2⟩, ⟨k3, k4, k5⟩, k6, k7⟩ :=
      Ev.fieldStart_lost (e := Ev.start s.dev) (p := p) (b := h) hc hl hf htop hlost
    have hcad (hv : (s.dev.lane l).monitor.tracker ≠ .video) (hm : s.dev.handler.mask.cadence = true)
        (hg : s.link.generals < 7) : ∃ x y, (s.event fun e => e.fieldStartEnabled l p h).link.outbound =
          s.link.outbound ++ x ++ ⟨.notice (.cadence l .video none f.sequence), none⟩ :: y := by
      obtain ⟨a, ha, h0, h1⟩ := k5 hv
      exact State.cadence_joins (f := fun e => e.fieldStartEnabled l p h) ha h0 h1 (by simp [Notice.rank])
        (by rw [Ev.fieldStart_handler]; exact hm) hg
    generalize (s.event fun e => e.fieldStartEnabled l p h) = t at *
    generalize (Ev.start s.dev).fieldStartEnabled l p h = e at *
    refine ⟨fun _ => ⟨hchain.trans k1, by rw [hjobs]; exact k2⟩,
      fun _ _ => ⟨by rw [hing]; exact k4, hmon.trans k3, hcad⟩, fun hs => hdram.trans (k6 hs),
      fun i hs hw hi hx => ?_, fun i hs hp => ?_⟩
    · obtain ⟨t1, t2⟩ := k7 i hs hw hi (hx.resolve_left htop).2
      exact ⟨(hslot i).trans t1, by rw [hfree]; exact t2⟩
    · rcases hlost with hn | hp'
      · rw [hs] at hn; cases hn
      · exact absurd hp' hp
  · rw [not_or] at hlost
    obtain ⟨hn, hp⟩ := hlost
    refine ⟨fun hx => ?_, fun _ hx => ?_, fun hs => absurd hs hn, fun i hs hw hi hx => ?_, fun i hs _ _ hi => ?_⟩
    · rcases hx with hx | hx | hx
      · exact absurd hx hn
      · exact absurd hx hp
      · exact absurd hx htop
    · rcases hx with hx | hx
      · exact absurd hx hn
      · exact absurd hx hp
    · rcases hx with hx | hx
      · exact absurd hx htop
      · exact absurd hx.1 hp
    obtain ⟨⟨k1, k2, k3⟩, ⟨k4, k5⟩, k6, k7⟩ :=
      Ev.fieldStart_kept (e := Ev.start s.dev) (p := p) (b := h) hc hl hf htop hs hp hi
    generalize (s.event fun e => e.fieldStartEnabled l p h) = t at *
    generalize (Ev.start s.dev).fieldStartEnabled l p h = e at *
    rw [Ev.start_dev, OpenField.finished_handOff hs, IngestLane.jumps_eq] at k2
    rw [Ev.start_dev] at k3
    subst hlines
    refine ⟨_, _, hchain.trans k1, (hslot i).trans k2, rfl, rfl, fun y x hx hm => ?_, fun a ha => ?_,
      by rw [hing]; exact k4, hmon.trans k5, fun hx => hjobs.trans (k6 (by rw [← hing]; exact hx)), fun hx j hj => ?_⟩
    · rw [hdram, k3]
      exact OpenField.read_finished_missing hs hx hm
    · rw [hdram, k3]
      exact OpenField.read_finished_of_ne hs ha
    · obtain ⟨k8, k9⟩ := k7 (by rw [← hing]; exact hx) j hj
      exact ⟨fun hn => hjobs.trans (k8 hn), fun hn => by rw [hjobs]; exact k9 hn⟩

end
end Sys2Proof.Machine

/-! SUPPORT. The run builder: the runs of a line as its positions alone make them, and the list that takes them while it has
room (R15, R16). -/
namespace Sys2Proof.Machine
section
variable {line a b p : Nat} {ps : List Nat} {spans pre : List Span} {flag : Nat → Prop} {s x : Span}

/-! ## The runs of a line -/

/-- A run of line `line` from position `a` to position `b`. -/
def Span.runAt (line a b : Nat) : Span := ⟨line, a, b, .run, .notAttempted⟩

/-- The runs of a line whose last one so far goes from `a` to `b`, with the flagged positions `ps` still to come: a position
within 4 of the run's end extends it, and another one opens the next (R15). -/
def runsFrom (line a b : Nat) : List Nat → List Span
  | [] => [Span.runAt line a b]
  | p :: ps => if p ≤ b + 4 then runsFrom line a p ps else Span.runAt line a b :: runsFrom line p p ps

theorem runsFrom_ne_nil : runsFrom line a b ps ≠ [] := by
  induction ps generalizing a b with
  | nil => exact List.cons_ne_nil _ _
  | cons p ps ih =>
    rw [runsFrom]
    split
    · exact ih
    · exact List.cons_ne_nil _ _

/-- The runs of a line with the flagged positions `ps`. -/
def runsOf (line : Nat) : List Nat → List Span
  | [] => []
  | p :: ps => runsFrom line p p ps

/-- What R15 says of a run among the flagged positions. -/
structure Span.IsRun (flag : Nat → Prop) (line : Nat) (x : Span) : Prop where
  onLine  : x.line = line
  outcome : x.outcome = .notAttempted
  kind    : x.kind = .run
  first   : flag x.first
  last    : flag x.last
  ordered : x.first ≤ x.last
  inside  : ∀ p, flag p → x.first ≤ p → p < x.last → ∃ q, flag q ∧ p < q ∧ q ≤ p + 4 ∧ q ≤ x.last
  before  : ∀ p, flag p → p < x.first → p + 4 < x.first
  after   : ∀ p, flag p → x.last < p → x.last + 4 < p

/-- A scan of the flagged positions stands at a run from `a` to `b`, with `ps` to come. -/
structure ScanAt (flag : Nat → Prop) (a b : Nat) (ps : List Nat) : Prop where
  first  : flag a
  last   : flag b
  le     : a ≤ b
  sorted : (b :: ps).Pairwise (· < ·)
  rest   : ∀ p, b < p → (flag p ↔ p ∈ ps)
  inside : ∀ p, flag p → a ≤ p → p < b → ∃ q, flag q ∧ p < q ∧ q ≤ p + 4 ∧ q ≤ b
  before : ∀ p, flag p → p < a → p + 4 < a

theorem ScanAt.head_le (h : ScanAt flag a b (p :: ps)) {r : Nat} (hr : flag r) (hb : b < r) : p ≤ r := by
  have hs := (List.pairwise_cons.1 h.sorted).2
  rcases List.mem_cons.1 ((h.rest r hb).1 hr) with rfl | hm
  · exact Nat.le_refl _
  · exact Nat.le_of_lt ((List.pairwise_cons.1 hs).1 r hm)

theorem ScanAt.lt_head (h : ScanAt flag a b (p :: ps)) : b < p :=
  (List.pairwise_cons.1 h.sorted).1 p List.mem_cons_self

theorem ScanAt.flag_head (h : ScanAt flag a b (p :: ps)) : flag p := (h.rest p h.lt_head).2 List.mem_cons_self

/-- Past the head, what is flagged is still to come. -/
theorem ScanAt.rest_head (h : ScanAt flag a b (p :: ps)) (r : Nat) (hr : p < r) : flag r ↔ r ∈ ps := by
  rw [h.rest r (h.lt_head.trans hr), List.mem_cons]
  exact or_iff_right (Nat.ne_of_gt hr)

/-- A position near enough extends the run. -/
theorem ScanAt.extend (h : ScanAt flag a b (p :: ps)) (hp : p ≤ b + 4) : ScanAt flag a p ps where
  first := h.first
  last := h.flag_head
  le := h.le.trans (Nat.le_of_lt h.lt_head)
  sorted := (List.pairwise_cons.1 h.sorted).2
  rest := h.rest_head
  inside r hr ha hrp := by
    have hlt := h.lt_head
    rcases Nat.lt_trichotomy r b with hb | rfl | hb
    · obtain ⟨q, hq, h1, h2, h3⟩ := h.inside r hr ha hb
      exact ⟨q, hq, h1, h2, by omega⟩
    · exact ⟨p, h.flag_head, hrp, hp, Nat.le_refl _⟩
    · have := h.head_le hr hb
      omega
  before := h.before

/-- A position further away opens the next run. -/
theorem ScanAt.next (h : ScanAt flag a b (p :: ps)) (hp : ¬p ≤ b + 4) : ScanAt flag p p ps where
  first := h.flag_head
  last := h.flag_head
  le := Nat.le_refl _
  sorted := (List.pairwise_cons.1 h.sorted).2
  rest := h.rest_head
  inside r _ h1 h2 := absurd h2 (Nat.not_lt.2 h1)
  before r hr hrp := by
    have hrb : r ≤ b := Nat.not_lt.1 fun hb => by have := h.head_le hr hb; omega
    omega

/-- The run that a scan stands at is complete when the next position is far away, or none is left. -/
theorem ScanAt.isRun (h : ScanAt flag a b ps) (hafter : ∀ p, flag p → b < p → b + 4 < p) :
    (Span.runAt line a b).IsRun flag line :=
  ⟨rfl, rfl, rfl, h.first, h.last, h.le, h.inside, h.before, hafter⟩

/-- The runs of the rest of a scan: each is a run, they lie apart, start at `a` at the earliest, and hold every flagged
position from there. -/
theorem runsFrom_spec (h : ScanAt flag a b ps) : (∀ x ∈ runsFrom line a b ps, x.IsRun flag line ∧ a ≤ x.first) ∧
    (runsFrom line a b ps).Pairwise (fun x y => x.last < y.first) ∧
    ∀ p, flag p → a ≤ p → ∃ x ∈ runsFrom line a b ps, x.first ≤ p ∧ p ≤ x.last := by
  induction ps generalizing a b with
  | nil =>
    have hend (p : Nat) (hp : flag p) : p ≤ b := Nat.not_lt.1 fun hb => List.not_mem_nil ((h.rest p hb).1 hp)
    refine ⟨fun x hx => ?_, List.pairwise_singleton _ _, fun p hp ha =>
      ⟨_, List.mem_singleton_self _, ha, hend p hp⟩⟩
    obtain rfl := List.mem_singleton.1 hx
    exact ⟨h.isRun fun p hp hb => absurd (hend p hp) (Nat.not_le.2 hb), Nat.le_refl _⟩
  | cons p ps ih =>
    rw [runsFrom]
    split
    · exact ih (h.extend ‹_›)
    · rename_i hp
      obtain ⟨h1, h2, h3⟩ := ih (h.next hp)
      have hlt := h.lt_head
      refine ⟨fun x hx => ?_, List.pairwise_cons.2 ⟨fun y hy => ?_, h2⟩, fun r hr ha => ?_⟩
      · rcases List.mem_cons.1 hx with rfl | hx
        · refine ⟨h.isRun fun r hr hb => ?_, Nat.le_refl _⟩
          have := h.head_le hr hb
          omega
        · have := (h1 x hx).2
          exact ⟨(h1 x hx).1, by have := h.le; omega⟩
      · exact Nat.lt_of_lt_of_le hlt (h1 y hy).2
      · by_cases hb : r ≤ b
        · exact ⟨_, List.mem_cons_self, ha, hb⟩
        · obtain ⟨x, hx, hxr⟩ := h3 r hr (h.head_le hr (Nat.not_le.1 hb))
          exact ⟨x, List.mem_cons_of_mem _ hx, hxr⟩

/-- The runs of a line whose flagged positions are `ps` (R15). -/
theorem runsOf_spec (hs : ps.Pairwise (· < ·)) (hflag : ∀ p, flag p ↔ p ∈ ps) :
    (∀ x ∈ runsOf line ps, x.IsRun flag line) ∧ (runsOf line ps).Pairwise (fun x y => x.last < y.first) ∧
      ∀ p, flag p → ∃ x ∈ runsOf line ps, x.first ≤ p ∧ p ≤ x.last := by
  cases ps with
  | nil => exact ⟨fun x hx => absurd hx List.not_mem_nil, .nil, fun p hp => absurd ((hflag p).1 hp) List.not_mem_nil⟩
  | cons a ps =>
    have hle (p : Nat) (hp : flag p) : a ≤ p := by
      rcases List.mem_cons.1 ((hflag p).1 hp) with rfl | hm
      · exact Nat.le_refl _
      · exact Nat.le_of_lt ((List.pairwise_cons.1 hs).1 p hm)
    have hscan : ScanAt flag a a ps :=
      { first := (hflag a).2 List.mem_cons_self
        last := (hflag a).2 List.mem_cons_self
        le := Nat.le_refl _
        sorted := hs
        rest := fun p hp => by rw [hflag, List.mem_cons]; exact or_iff_right (Nat.ne_of_gt hp)
        inside := fun p _ h1 h2 => absurd h2 (Nat.not_lt.2 h1)
        before := fun p hp h => absurd (hle p hp) (Nat.not_le.2 h) }
    obtain ⟨h1, h2, h3⟩ := runsFrom_spec (line := line) hscan
    exact ⟨fun x hx => (h1 x hx).1, h2, fun p hp => h3 p hp (hle p hp)⟩

/-! ## The list that takes them -/

/-- A span turned into a REST span on its own line (R16). -/
def Span.toRest (s : Span) : Span := { s with first := 0, last := 719, kind := .rest }

/-- A list cut at 32 spans: the first 31 stay and the 32nd becomes a REST span (R16). -/
def capSpans (xs : List Span) : List Span :=
  if xs.length ≤ 32 then xs else xs.take 31 ++ (xs[31]?.map Span.toRest).toList

theorem capSpans_of_le (h : spans.length ≤ 32) : capSpans spans = spans := if_pos h

/-- A list of 32 spans with more behind it. -/
theorem capSpans_full {more : List Span} (h : pre.length = 31) (hm : more ≠ []) :
    capSpans (pre ++ s :: more) = pre ++ [s.toRest] := by
  have hlen : ¬(pre ++ s :: more).length ≤ 32 := by
    have := List.length_pos_of_ne_nil hm
    simp only [List.length_append, List.length_cons]; omega
  rw [capSpans, if_neg hlen, List.take_append_of_le_length (by omega), List.take_of_length_le (by omega),
    List.getElem?_append_right (by omega), h]
  rfl

/-- A REST span takes all (R16). -/
theorem addFlag_of_rest (h : s.kind = .rest) : addFlag line (pre ++ [s]) p = pre ++ [s] := by
  simp [addFlag, h]

theorem foldl_addFlag_of_rest (h : s.kind = .rest) : ps.foldl (addFlag line) (pre ++ [s]) = pre ++ [s] := by
  induction ps with
  | nil => rfl
  | cons p ps ih => rw [List.foldl_cons, addFlag_of_rest h, ih]

/-- A position near enough extends the line's last run. -/
theorem addFlag_extend (h : p ≤ b + 4) :
    addFlag line (pre ++ [Span.runAt line a b]) p = pre ++ [Span.runAt line a p] := by
  simp [addFlag, Span.runAt, h]

/-- A position that extends no run meets a full list. -/
theorem addFlag_full (hk : s.kind ≠ .rest) (hs : ¬(s.line = line ∧ p ≤ s.last + 4)) (hl : pre.length = 31) :
    addFlag line (pre ++ [s]) p = pre ++ [s.toRest] := by
  simp [addFlag, hk, hs, hl, Config.maxSpans, Span.toRest]

/-- A position that extends no run opens the next where there is room. -/
theorem addFlag_open (hk : s.kind ≠ .rest) (hs : ¬(s.line = line ∧ p ≤ s.last + 4)) (hl : pre.length < 31) :
    addFlag line (pre ++ [s]) p = pre ++ [s] ++ [Span.runAt line p p] := by
  have : ¬32 ≤ pre.length + 1 := by omega
  simp [addFlag, hk, hs, this, Config.maxSpans, Span.runAt]

/-- The positions of a line behind the run that they may extend: the list takes their runs, cut at 32. -/
theorem foldl_addFlag_run (hl : pre.length ≤ 31) :
    ps.foldl (addFlag line) (pre ++ [Span.runAt line a b]) = capSpans (pre ++ runsFrom line a b ps) := by
  induction ps generalizing pre a b with
  | nil => rw [List.foldl_nil, runsFrom, capSpans_of_le (by simp; omega)]
  | cons p ps ih =>
    rw [List.foldl_cons, runsFrom]
    by_cases hp : p ≤ b + 4
    · rw [addFlag_extend hp, if_pos hp, ih hl]
    · have hs : ¬((Span.runAt line a b).line = line ∧ p ≤ (Span.runAt line a b).last + 4) := fun h => hp h.2
      have hk : (Span.runAt line a b).kind ≠ .rest := by simp [Span.runAt]
      rw [if_neg hp]
      by_cases h31 : pre.length = 31
      · rw [addFlag_full hk hs h31, foldl_addFlag_of_rest rfl, capSpans_full h31 runsFrom_ne_nil]
      · rw [addFlag_open hk hs (by omega), ih (by simp; omega), List.append_assoc]
        rfl

/-- The positions of a new line: a list that ends in no REST span takes their runs, cut at 32. -/
theorem foldl_addFlag (hl : spans.length ≤ 32) (hline : ∀ x ∈ spans, x.line < line)
    (hlast : ∀ x, spans.getLast? = some x → x.kind ≠ .rest) :
    ps.foldl (addFlag line) spans = capSpans (spans ++ runsOf line ps) := by
  cases ps with
  | nil => rw [List.foldl_nil, runsOf, List.append_nil, capSpans_of_le hl]
  | cons p ps =>
    rw [List.foldl_cons, runsOf]
    rcases List.eq_nil_or_concat' spans with rfl | ⟨pre, s, rfl⟩
    · exact foldl_addFlag_run (pre := []) (Nat.zero_le _)
    · have hk : s.kind ≠ .rest := hlast s (by simp)
      have hs : ¬(s.line = line ∧ p ≤ s.last + 4) := fun h => by
        have := hline s (by simp)
        omega
      simp only [List.length_append, List.length_singleton] at hl
      by_cases h31 : pre.length = 31
      · rw [addFlag_full hk hs h31, foldl_addFlag_of_rest rfl, List.append_assoc, List.singleton_append,
          capSpans_full h31 runsFrom_ne_nil]
      · rw [addFlag_open hk hs (by omega), foldl_addFlag_run (by simp; omega)]

/-! ## Whole lines -/

theorem markLine_of_line_ne (h : s.line ≠ line) : markLine line s = s := by simp [markLine, h]

theorem map_markLine_of_lt (h : ∀ x ∈ spans, x.line < line) : spans.map (markLine line) = spans :=
  (List.map_congr_left fun x hx => markLine_of_line_ne (Nat.ne_of_lt (h x hx))).trans (List.map_id _)

/-- Marking turns a run from 0 to 719 into a LINE span, and changes nothing else. -/
theorem markLine_of_isRun (h : x.IsRun flag line) :
    markLine line x = { x with kind := if x.first = 0 ∧ x.last = 719 then .line else .run } := by
  obtain ⟨ln, fs, la, kd, oc⟩ := x
  obtain rfl : kd = .run := h.kind
  obtain rfl : ln = line := h.onLine
  by_cases hx : fs = 0 ∧ la = 719 <;> simp [markLine, hx]

/-- Marking and the cut do not see each other. -/
theorem map_markLine_capSpans : (capSpans spans).map (markLine line) = capSpans (spans.map (markLine line)) := by
  have hrest (s : Span) : markLine line s.toRest = (markLine line s).toRest := by
    have h1 : markLine line s.toRest = s.toRest := by simp [markLine, Span.toRest]
    rw [h1]
    unfold markLine
    split <;> rfl
  unfold capSpans
  rw [List.length_map]
  split
  · rfl
  · rw [List.map_append, List.map_take, List.getElem?_map]
    cases spans[31]? <;> simp [hrest]

/-- The runs of a line with the flagged words `flagged`, those over the whole line marked as LINE spans (R15). -/
def lineRuns (line : Nat) (flagged : List Nat) : List Span :=
  (runsOf line ((List.range 720).filter (positionFlagged flagged))).map (markLine line)

/-- The run builder's list is the old one with the line's runs, cut at 32 (R15, R16). -/
theorem buildLine_eq {flagged : List Nat} (hl : spans.length ≤ 32) (hline : ∀ x ∈ spans, x.line < line)
    (hlast : ∀ x, spans.getLast? = some x → x.kind ≠ .rest) :
    buildLine line flagged spans = capSpans (spans ++ lineRuns line flagged) := by
  rw [buildLine, foldl_addFlag hl hline hlast, map_markLine_capSpans, List.map_append, map_markLine_of_lt hline]
  rfl

/-- A list that ends in a REST span stays as it is. -/
theorem buildLine_of_rest {flagged : List Nat} (hline : ∀ x ∈ spans, x.line < line)
    (hlast : spans.getLast? = some x) (hk : x.kind = .rest) : buildLine line flagged spans = spans := by
  obtain ⟨pre, rfl⟩ := List.getLast?_eq_some_iff.1 hlast
  rw [buildLine, foldl_addFlag_of_rest hk, map_markLine_of_lt hline]

/-- What R15 says of the runs of a line. -/
theorem lineRuns_spec {flagged : List Nat} (hflag : ∀ p, flag p ↔ p < 720 ∧ positionFlagged flagged p = true) :
    (∀ x ∈ lineRuns line flagged, ∃ y : Span, y.IsRun flag line ∧
      x = { y with kind := if y.first = 0 ∧ y.last = 719 then .line else .run }) ∧
    (lineRuns line flagged).Pairwise (fun x y => x.last < y.first) ∧
    ∀ p, flag p → ∃ x ∈ lineRuns line flagged, x.first ≤ p ∧ p ≤ x.last := by
  obtain ⟨h1, h2, h3⟩ := runsOf_spec (flag := flag) (line := line) (ps := (List.range 720).filter (positionFlagged flagged))
    (List.pairwise_lt_range.filter _) fun p => by rw [hflag, List.mem_filter, List.mem_range]
  refine ⟨fun x hx => ?_, ?_, fun p hp => ?_⟩
  · obtain ⟨y, hy, rfl⟩ := List.mem_map.1 hx
    exact ⟨y, h1 y hy, markLine_of_isRun (h1 y hy)⟩
  · refine List.pairwise_map.2 (h2.imp_of_mem fun hx hy hlt => ?_)
    rw [markLine_of_isRun (h1 _ hx), markLine_of_isRun (h1 _ hy)]
    exact hlt
  · obtain ⟨x, hx, hp1, hp2⟩ := h3 p hp
    refine ⟨_, List.mem_map_of_mem hx, ?_⟩
    rw [markLine_of_isRun (h1 x hx)]
    exact ⟨hp1, hp2⟩

/-! ## The bounds of the list -/

/-- What the list keeps of each span, from the lines up to `line`. -/
structure Span.Bounded (line : Nat) (x : Span) : Prop where
  line    : x.line ≤ line
  ordered : x.first ≤ x.last
  inLine  : x.last ≤ 719
  outcome : x.outcome = .notAttempted

theorem Span.Bounded.toRest (h : x.Bounded line) : x.toRest.Bounded line :=
  ⟨h.line, Nat.zero_le _, Nat.le_refl _, h.outcome⟩

/-- A list of runs and LINE spans, cut at 32, is inside the bounds. -/
theorem capSpans_bounds (h : ∀ x ∈ spans, x.kind ≠ .rest ∧ x.Bounded line) :
    (capSpans spans).length ≤ 32 ∧ (∀ x ∈ (capSpans spans).dropLast, x.kind ≠ .rest) ∧
      ∀ x ∈ capSpans spans, x.Bounded line := by
  unfold capSpans
  split
  · exact ⟨‹_›, fun x hx => (h x (List.mem_of_mem_dropLast hx)).1, fun x hx => (h x hx).2⟩
  · rename_i hlen
    obtain ⟨z, hz⟩ : ∃ z, spans[31]? = some z := ⟨_, List.getElem?_eq_getElem (by omega)⟩
    rw [hz]
    refine ⟨by simp, fun x hx => ?_, fun x hx => ?_⟩
    · rw [Option.map_some, Option.toList_some, List.dropLast_concat] at hx
      exact (h x (List.mem_of_mem_take hx)).1
    · rcases List.mem_append.1 hx with hx | hx
      · exact (h x (List.mem_of_mem_take hx)).2
      · obtain rfl : x = z.toRest := by simpa using hx
        exact (h z (List.mem_of_getElem? hz)).2.toRest

/-- A list with a REST span at its end at most has none where its end is none. -/
theorem kind_ne_rest_of_dropLast (hd : ∀ x ∈ spans.dropLast, x.kind ≠ .rest)
    (hlast : ∀ x, spans.getLast? = some x → x.kind ≠ .rest) : ∀ x ∈ spans, x.kind ≠ .rest := by
  intro x hx
  rcases List.eq_nil_or_concat' spans with rfl | ⟨pre, s, rfl⟩
  · cases hx
  · rw [List.dropLast_concat] at hd
    rcases List.mem_append.1 hx with hx | hx
    · exact hd x hx
    · obtain rfl := List.mem_singleton.1 hx
      exact hlast x (by simp)

/-- Settles O14: the run builder's list is the cut of the old one with the line's runs. -/
theorem dropoutListStaysBounded : Obligations.DropoutListStaysBounded := by
  intro line flagged spans flag hlen hdrop hspans hflag
  have hmem (p : Nat) : flag p ↔ p < 720 ∧ positionFlagged flagged p = true := by
    rw [hflag]
    simp only [positionFlagged, Bool.or_eq_true, decide_eq_true_eq, or_assoc]
    exact and_congr_left fun _ => by omega
  obtain ⟨hruns, happart, hcover⟩ := lineRuns_spec (line := line) hmem
  have hline : ∀ x ∈ spans, x.line < line := fun x hx => (hspans x hx).1
  have hbound (p : Nat) (hp : flag p) : p ≤ 719 := ((hflag p).1 hp).1
  have hold : ∀ x ∈ spans, x.Bounded line := fun x hx => by
    obtain ⟨h1, h2, h3, h4⟩ := hspans x hx
    exact ⟨Nat.le_of_lt h1, h2, h3, h4⟩
  have hnew : ∀ x ∈ lineRuns line flagged, x.kind ≠ .rest ∧ x.Bounded line := fun x hx => by
    obtain ⟨y, hy, rfl⟩ := hruns x hx
    refine ⟨?_, Nat.le_of_eq hy.onLine, hy.ordered, hbound _ hy.last, hy.outcome⟩
    dsimp only
    split <;> simp
  refine ⟨?_, lineRuns line flagged, fun x hx => ?_, hcover, happart, fun ⟨x, hx, hk⟩ => buildLine_of_rest hline hx hk,
    fun hlast => ?_⟩
  · by_cases hrest : ∃ x, spans.getLast? = some x ∧ x.kind = .rest
    · obtain ⟨x, hx, hk⟩ := hrest
      rw [buildLine_of_rest hline hx hk]
      exact ⟨hlen, hdrop, fun x hx => ⟨(hold x hx).line, (hold x hx).ordered, (hold x hx).inLine, (hold x hx).outcome⟩⟩
    · have hlast : ∀ x, spans.getLast? = some x → x.kind ≠ .rest := fun x hx hk => hrest ⟨x, hx, hk⟩
      rw [buildLine_eq hlen hline hlast]
      obtain ⟨h1, h2, h3⟩ := capSpans_bounds (line := line) (spans := spans ++ lineRuns line flagged) fun x hx =>
        (List.mem_append.1 hx).elim (fun hx => ⟨kind_ne_rest_of_dropLast hdrop hlast x hx, hold x hx⟩) (hnew x)
      exact ⟨h1, h2, fun x hx => ⟨(h3 x hx).line, (h3 x hx).ordered, (h3 x hx).inLine, (h3 x hx).outcome⟩⟩
  · obtain ⟨y, hy, rfl⟩ := hruns x hx
    exact ⟨hy.onLine, hy.outcome, hy.first, hy.last, hy.ordered, rfl, hy.inside, hy.before, hy.after⟩
  · rw [buildLine_eq hlen hline hlast]
    refine ⟨fun h => capSpans_of_le (by simpa using h), fun z hz h => ?_⟩
    have hz' : z.outcome = .notAttempted := by
      rcases List.mem_append.1 (List.mem_of_getElem? hz) with hm | hm
      · exact (hold z hm).outcome
      · exact (hnew z hm).2.outcome
    rw [capSpans, if_neg (by simpa using h), hz, ← hz']
    rfl

end
end Sys2Proof.Machine

/-! SUPPORT. Four laws of the part as one predicate with what an event still has in hand: the canonical form of the stacked
DRAM (R31), the owners of the held completions (R134), the free list (R33), and the Field Store's references and quotas (R32
to R35, R44). What each change of the part makes of them is said once here; the walk through the events cites it. -/
namespace Sys2Proof.Machine

/-! ## The laws -/

/-- The laws that one walk through the events proves. -/
inductive DeviceLaw where
  | dramForm | heldOwn | freeList | fieldStore

section
variable {d d' : Device} {l k : Lane} {i : SlotId} {x x' y y' : List SlotId} {u v : LaneUnit} {a : DeviceLaw}
  {f : LaneUnit → LaneUnit}

/-- The WRITING slots that a lane keeps: its open field's and that of the field in its chain (R32). -/
def LaneUnit.writes (u : LaneUnit) : List SlotId := u.openSlot ++ u.chainSlot

/-- The references that a lane keeps, each as often as it holds it: its window's and its pending jobs' (R44). -/
def LaneUnit.references (u : LaneUnit) : List SlotId := u.window ++ u.op.jobs.flatMap Job.slots

theorem LaneUnit.referencesOn_eq (u : LaneUnit) (i : SlotId) : u.referencesOn i = u.references.count i := by
  simp [LaneUnit.referencesOn, LaneUnit.references]

/-- What lane `l`'s event has in hand, as each lane `k` sees it. -/
def inHand (l : Lane) (x : List SlotId) (k : Lane) : List SlotId := if k = l then x else []

@[simp] theorem inHand_self : inHand l x l = x := if_pos rfl
@[simp] theorem inHand_nil : inHand l [] k = [] := by simp [inHand]
theorem inHand_of_ne (h : k ≠ l) : inHand l x k = [] := if_neg h

/-- The law of the free list while lane `l`'s event has the WRITING slots `x` still to place or to free. -/
structure Device.ListLaw (d : Device) (l : Lane) (x : List SlotId) : Prop where
  nodup : d.freeList.Nodup
  mem   : ∀ i, i ∈ d.freeList ↔ (d.slot i).state = .free
  owned : ∀ k, ∀ i ∈ (d.lane k).writes ++ inHand l x k, (d.slot i).state = .writing ∧ (d.slot i).owner = some k
  apart : ∀ k, ((d.lane k).writes ++ inHand l x k).Nodup

/-- The law of one slot while lane `l`'s event has the WRITING slots `x` and the references `y` in hand. -/
structure Device.SlotLaw (d : Device) (l : Lane) (x y : List SlotId) (i : SlotId) : Prop where
  free    : (d.slot i).state = .free → d.slot i = Slot.empty
  writing : (d.slot i).state = .writing →
    (d.slot i).refs = 0 ∧ ∃ k, (d.slot i).owner = some k ∧ i ∈ (d.lane k).writes ++ inHand l x k
  held    : (d.slot i).state = .held → (d.slot i).refs = d.referencesOn i + y.count i ∧ 1 ≤ (d.slot i).refs
  unheld  : (d.slot i).state ≠ .held → d.referencesOn i + y.count i = 0
  record  : (d.slot i).state ≠ .free → (d.slot i).record.isSome = true
  owner   : ∀ k, i ∈ (d.lane k).references ++ inHand l y k → (d.slot i).owner = some k
  running : ∀ j, d.engine.running = some j → i ∈ j.slots → (d.slot i).owner = some j.lane

/-- A lane's own part of the Field Store's law, its quota aside; `run` is the running job. -/
structure LaneUnit.LaneLaw (u : LaneUnit) (l : Lane) (run : Option Job) : Prop where
  field  : ∀ o i, u.ingest.openField = some o → o.slot = some i → u.ingest.state = .locked
  joined : ∀ i, u.chain = some ⟨.monitor, i⟩ ∨ u.chain = some ⟨.controller, i⟩ → i ∈ u.window
  jobs   : ∀ j ∈ u.op.jobs, j.lane = l ∧ (j.state = .waitingNext → j.fieldNext = none)
  waits  : (u.op.jobs.filter fun j => j.state = .waitingNext).length ≤ 1
  off    : u.ingest.state = .off → u.ingest.openField = none ∧ u.chain = none ∧ u.window = [] ∧ u.op.jobs = [] ∧
    ∀ j, run = some j → j.lane ≠ l

/-- The part keeps the law `a` while lane `l`'s event has the WRITING slots `x` and the references `y` in hand. -/
structure Device.Lawful (a : DeviceLaw) (l : Lane) (x y : List SlotId) (d : Device) : Prop where
  dram  : a = .dramForm → d.dram.wf = true
  held  : a = .heldOwn → d.heldOk
  list  : a = .freeList ∨ a = .fieldStore → d.ListLaw l x
  slots : a = .fieldStore → ∀ i, d.SlotLaw l x y i
  lanes : a = .fieldStore → ∀ k, (d.lane k).LaneLaw k d.engine.running
  quota : a = .fieldStore → d.quotasOk

/-! ## With nothing in hand -/

theorem LaneUnit.openSlot_nodup (u : LaneUnit) : u.openSlot.Nodup := by
  unfold LaneUnit.openSlot
  split
  · rename_i o _
    cases o.slot <;> simp
  · exact List.nodup_nil

theorem LaneUnit.chainSlot_nodup (u : LaneUnit) : u.chainSlot.Nodup := by
  unfold LaneUnit.chainSlot
  split <;> simp

theorem Device.listLaw_iff : d.ListLaw l [] ↔ d.freeListOk := by
  constructor
  · rintro ⟨h1, h2, h3, h4⟩
    refine ⟨h1, h2, fun k i hi => h3 k i (by simpa [LaneUnit.writes] using hi), fun k i ho hc => ?_⟩
    have := h4 k
    rw [inHand_nil, List.append_nil] at this
    exact (List.disjoint_of_nodup_append this) ho hc
  · rintro ⟨h1, h2, h3, h4⟩
    refine ⟨h1, h2, fun k i hi => h3 k i (by simpa [LaneUnit.writes] using hi), fun k => ?_⟩
    rw [inHand_nil, List.append_nil]
    exact List.nodup_append'.2 ⟨LaneUnit.openSlot_nodup _, LaneUnit.chainSlot_nodup _, fun i ho hc => h4 k i ho hc⟩

theorem Device.slotLaw_iff : d.SlotLaw l [] [] i ↔ d.slotOk i := by
  have hj (j : Job) : i ∈ j.slots ↔ j.slots.count i ≠ 0 := by rw [← List.count_pos_iff, Nat.pos_iff_ne_zero]
  have hr (k : Lane) : i ∈ (d.lane k).references ++ inHand l [] k ↔ (d.lane k).referencesOn i ≠ 0 := by
    rw [LaneUnit.referencesOn_eq, inHand_nil, List.append_nil, ← List.count_pos_iff, Nat.pos_iff_ne_zero]
  constructor
  · rintro ⟨h1, h2, h3, h4, h5, h6, h7⟩
    exact ⟨h1, fun h => by simpa [LaneUnit.writes] using h2 h, h3, h4, h5, fun k hk => h6 k ((hr k).2 hk),
      fun j h hj' => h7 j h ((hj j).2 hj')⟩
  · rintro ⟨h1, h2, h3, h4, h5, h6, h7⟩
    exact ⟨h1, fun h => by simpa [LaneUnit.writes] using h2 h, h3, h4, h5, fun k hk => h6 k ((hr k).1 hk),
      fun j h hj' => h7 j h ((hj j).1 hj')⟩

theorem Device.storeLaneOk_iff :
    d.storeLaneOk k ↔ (d.lane k).LaneLaw k d.engine.running ∧ d.slotsInUse k ≤ (d.lane k).quota := by
  constructor
  · rintro ⟨h1, h2, h3, h4, h5, h6⟩
    exact ⟨⟨h1, h2, h3, h4, h5⟩, h6⟩
  · rintro ⟨⟨h1, h2, h3, h4, h5⟩, h6⟩
    exact ⟨h1, h2, h3, h4, h5, h6⟩

theorem Device.lawful_dramForm : d.Lawful .dramForm l [] [] ↔ d.dram.wf = true :=
  ⟨fun h => h.dram rfl, fun h => ⟨fun _ => h, nofun, nofun, nofun, nofun, nofun⟩⟩

theorem Device.lawful_heldOwn : d.Lawful .heldOwn l [] [] ↔ d.heldOk :=
  ⟨fun h => h.held rfl, fun h => ⟨nofun, fun _ => h, nofun, nofun, nofun, nofun⟩⟩

theorem Device.lawful_freeList : d.Lawful .freeList l [] [] ↔ d.freeListOk :=
  ⟨fun h => Device.listLaw_iff.1 (h.list (.inl rfl)),
    fun h => ⟨nofun, nofun, fun _ => Device.listLaw_iff.2 h, nofun, nofun, nofun⟩⟩

theorem Device.lawful_fieldStore : d.Lawful .fieldStore l [] [] ↔ d.storeOk := by
  constructor
  · exact fun h => ⟨Device.listLaw_iff.1 (h.list (.inr rfl)), fun i => Device.slotLaw_iff.1 (h.slots rfl i),
      fun k => Device.storeLaneOk_iff.2 ⟨h.lanes rfl k, h.quota rfl k⟩⟩
  · rintro ⟨h1, h2, h3⟩
    exact ⟨nofun, nofun, fun _ => Device.listLaw_iff.2 h1, fun _ i => Device.slotLaw_iff.2 (h2 i),
      fun _ k => (Device.storeLaneOk_iff.1 (h3 k)).1, fun _ k => (Device.storeLaneOk_iff.1 (h3 k)).2⟩

/-- With nothing in hand the event's lane does not matter. -/
theorem Device.Lawful.ofLane {m : Lane} (h : d.Lawful a m [] []) : d.Lawful a l [] [] := by
  cases a
  · exact Device.lawful_dramForm.2 (Device.lawful_dramForm.1 h)
  · exact Device.lawful_heldOwn.2 (Device.lawful_heldOwn.1 h)
  · exact Device.lawful_freeList.2 (Device.lawful_freeList.1 h)
  · exact Device.lawful_fieldStore.2 (Device.lawful_fieldStore.1 h)

/-! ## Changes beside the Field Store -/

/-- What the Field Store's law reads of a lane, its quota aside. -/
def LaneUnit.holder (u : LaneUnit) : LaneUnit :=
  { LaneUnit.powerOn with
    ingest := { IngestLane.reset with state := u.ingest.state, openField := u.ingest.openField }
    chain := u.chain, window := u.window, op := { Controller.reset with jobs := u.op.jobs } }

section
variable (h : v.holder = u.holder)
include h

theorem LaneUnit.writes_of_holder : v.writes = u.writes := by
  have hw := congrArg LaneUnit.writes h
  exact hw

theorem LaneUnit.references_of_holder : v.references = u.references := by
  have hr := congrArg LaneUnit.references h
  exact hr

theorem LaneUnit.LaneLaw.of_holder {run : Option Job} (hl : u.LaneLaw l run) : v.LaneLaw l run := by
  have hv : v.holder.LaneLaw l run := by
    rw [h]
    exact ⟨hl.field, hl.joined, hl.jobs, hl.waits, hl.off⟩
  exact ⟨hv.field, hv.joined, hv.jobs, hv.waits, hv.off⟩

end

/-- Two parts that the Field Store's law tells apart by the quotas and by the contents of field records at most. -/
structure Device.SameStore (d d' : Device) : Prop where
  lanes    : ∀ k, (d'.lane k).holder = (d.lane k).holder
  slots    : ∀ i, ∃ r, d'.slot i = { d.slot i with record := r } ∧ r.isSome = (d.slot i).record.isSome
  freeList : d'.freeList = d.freeList
  running  : d'.engine.running = d.engine.running

section
variable (h : d.SameStore d')
include h

theorem Device.SameStore.writes (k : Lane) : (d'.lane k).writes = (d.lane k).writes :=
  LaneUnit.writes_of_holder (h.lanes k)

theorem Device.SameStore.references (k : Lane) : (d'.lane k).references = (d.lane k).references :=
  LaneUnit.references_of_holder (h.lanes k)

theorem Device.SameStore.referencesOn (i : SlotId) : d'.referencesOn i = d.referencesOn i := by
  simp only [Device.referencesOn, LaneUnit.referencesOn_eq, h.references, Engine.referencesOn, h.running]

theorem Device.SameStore.laneLaw (hl : (d.lane k).LaneLaw k d.engine.running) :
    (d'.lane k).LaneLaw k d'.engine.running := by
  rw [h.running]
  exact hl.of_holder (h.lanes k)

theorem Device.SameStore.listLaw (hl : d.ListLaw l x) : d'.ListLaw l x := by
  obtain ⟨h1, h2, h3, h4⟩ := hl
  have hstate (i) : (d'.slot i).state = (d.slot i).state := by obtain ⟨r, hr, -⟩ := h.slots i; rw [hr]
  have howner (i) : (d'.slot i).owner = (d.slot i).owner := by obtain ⟨r, hr, -⟩ := h.slots i; rw [hr]
  refine ⟨h.freeList ▸ h1, fun i => ?_, fun k i => ?_, fun k => ?_⟩
  · rw [h.freeList, hstate]; exact h2 i
  · rw [h.writes, hstate, howner]; exact h3 k i
  · rw [h.writes]; exact h4 k

theorem Device.SameStore.slotLaw (hl : d.SlotLaw l x y i) : d'.SlotLaw l x y i := by
  obtain ⟨h1, h2, h3, h4, h5, h6, h7⟩ := hl
  obtain ⟨r, hr, hs⟩ := h.slots i
  refine ⟨fun hf => ?_, ?_, ?_, ?_, ?_, ?_, ?_⟩
  · rw [hr] at hf ⊢
    have he := h1 hf
    rw [he] at hs ⊢
    cases r
    · rfl
    · cases hs
  · simpa only [hr, h.writes] using h2
  · simpa only [hr, h.referencesOn] using h3
  · simpa only [hr, h.referencesOn] using h4
  · rw [hr]; exact fun hf => hs.trans (h5 hf)
  · simpa only [hr, h.references] using h6
  · simpa only [hr, h.running] using h7

theorem Device.SameStore.quotasOk (hq : ∀ k, (d'.lane k).quota = (d.lane k).quota) (hl : d.quotasOk) :
    d'.quotasOk := fun k => by
  have howner (i) : (d'.slot i).owner = (d.slot i).owner := by obtain ⟨r, hr, -⟩ := h.slots i; rw [hr]
  rw [hq, Device.slotsInUse_congr howner]
  exact hl k

/-- A change that leaves the Field Store as it is keeps the laws that the rest of it keeps. -/
theorem Device.Lawful.of_sameStore (hq : a = .fieldStore → d.quotasOk → d'.quotasOk)
    (hd : a = .dramForm → d.dram.wf = true → d'.dram.wf = true) (hh : a = .heldOwn → d.heldOk → d'.heldOk)
    (hl : d.Lawful a l x y) : d'.Lawful a l x y :=
  ⟨fun ha => hd ha (hl.dram ha), fun ha => hh ha (hl.held ha), fun ha => h.listLaw (hl.list ha),
    fun ha i => h.slotLaw (hl.slots ha i), fun ha k => h.laneLaw (hl.lanes ha k), fun ha => hq ha (hl.quota ha)⟩

end

/-- What of an Operation Controller outlives its operations: the pending jobs and the held completion. -/
def Controller.holds (op : Controller) : List Job × Option Completion := (op.jobs, op.held)

/-- A change of lane `l`'s operation and Cadence Monitor that leaves its pending jobs and its held completion. -/
theorem Device.Lawful.of_beside (hb : d'.beside = d.beside) (ho : d'.outside l = d.outside l)
    (hc : (d'.lane l).op.holds = (d.lane l).op.holds) (h : d.Lawful a l x y) : d'.Lawful a l x y := by
  have hlane (k : Lane) (hk : k ≠ l) : d'.lane k = d.lane k := (Device.sameOutside_of_outside ho).1 k hk
  have hholds (k : Lane) : (d'.lane k).op.holds = (d.lane k).op.holds := by
    by_cases hk : k = l
    · subst hk; exact hc
    · rw [hlane k hk]
  refine .of_sameStore ⟨fun k => ?_, fun i => ⟨_, Device.slot_of_beside hb i, rfl⟩, Device.freeList_of_beside hb,
    congrArg Engine.running (Device.engine_of_beside hb)⟩ (fun _ hq k => ?_) (fun _ hd => ?_) (fun _ hh k c hk => ?_) h
  · have hj : (d'.lane k).op.jobs = (d.lane k).op.jobs := congrArg Prod.fst (hholds k)
    simp only [LaneUnit.holder, Device.ingest_of_beside hb k, Device.chain_of_beside hb k, Device.window_of_beside hb k, hj]
  · rw [Device.quota_of_beside hb k, Device.slotsInUse_congr (d := d) fun i => by rw [Device.slot_of_beside hb i]]
    exact hq k
  · rw [Device.dram_of_beside hb]; exact hd
  · exact hh k c ((congrArg Prod.snd (hholds k)).symm.trans hk)

/-- Writing words. -/
theorem Device.Lawful.setDram {m : Dram} (hm : a = .dramForm → d.dram.wf = true → m.wf = true)
    (h : d.Lawful a l x y) : (d.setDram m).Lawful a l x y :=
  .of_sameStore (d := d) ⟨fun _ => rfl, fun _ => ⟨_, rfl, rfl⟩, rfl, rfl⟩ (fun _ => id) hm (fun _ => id) h

theorem Device.SameStore.modRecord (d : Device) (i : SlotId) (g : FieldRecord → FieldRecord) :
    d.SameStore (d.modRecord i g) := by
  refine ⟨fun _ => rfl, fun k => ?_, rfl, rfl⟩
  rw [Device.modRecord, Device.slot_setSlot]
  split
  · subst k; exact ⟨_, rfl, Option.isSome_map⟩
  · exact ⟨_, rfl, rfl⟩

/-- Writing a field record. -/
theorem Device.Lawful.modRecord {g : FieldRecord → FieldRecord} (h : d.Lawful a l x y) :
    (d.modRecord i g).Lawful a l x y := by
  have hs := Device.SameStore.modRecord d i g
  exact .of_sameStore hs (fun _ => hs.quotasOk fun _ => rfl) (fun _ => id) (fun _ => id) h

/-! ## Changes of a lane -/

theorem Device.referencesOn_eq (d : Device) (i : SlotId) : d.referencesOn i =
    (d.lane 0).referencesOn i + (d.lane 1).referencesOn i + (d.lane 2).referencesOn i + (d.lane 3).referencesOn i +
      d.engine.referencesOn i := by
  simp [Device.referencesOn, List.finRange_succ]
  omega

/-- A lane's own references are among all. -/
theorem Device.lane_referencesOn_le (d : Device) (k : Lane) (i : SlotId) :
    (d.lane k).referencesOn i ≤ d.referencesOn i := by
  rw [Device.referencesOn_eq]
  fin_cases k <;> simp <;> omega

theorem Device.running_count_le {j : Job} (hj : d.engine.running = some j) (i : SlotId) :
    j.slots.count i ≤ d.referencesOn i := by
  rw [Device.referencesOn_eq]
  simp [Engine.referencesOn, hj]

theorem Device.referencesOn_modLane (d : Device) (l : Lane) (f : LaneUnit → LaneUnit) (i : SlotId) :
    (d.modLane l f).referencesOn i + (d.lane l).referencesOn i =
      d.referencesOn i + (f (d.lane l)).referencesOn i := by
  rw [Device.referencesOn_eq, Device.referencesOn_eq]
  fin_cases l <;> simp [Device.lane_modLane] <;> omega

/-- A change of lane `l` that moves WRITING slots and references between the lane and the event's hand. A WRITING slot may be
lost only where the whole law of the Field Store is not asked for. -/
theorem Device.Lawful.modLane (hh : (f (d.lane l)).op.held = (d.lane l).op.held)
    (hq : (f (d.lane l)).quota = (d.lane l).quota)
    (hw : ((f (d.lane l)).writes ++ x').Subperm ((d.lane l).writes ++ x))
    (hw' : a = .fieldStore → ((f (d.lane l)).writes ++ x').Perm ((d.lane l).writes ++ x))
    (hr : a = .fieldStore → ((f (d.lane l)).references ++ y').Perm ((d.lane l).references ++ y))
    (hl : a = .fieldStore → (d.lane l).LaneLaw l d.engine.running → (f (d.lane l)).LaneLaw l d.engine.running)
    (h : d.Lawful a l x y) : (d.modLane l f).Lawful a l x' y' := by
  have hsub (k : Lane) : (((d.modLane l f).lane k).writes ++ inHand l x' k).Subperm
      ((d.lane k).writes ++ inHand l x k) := by
    by_cases hk : k = l
    · subst hk; simpa using hw
    · rw [Device.lane_modLane_of_ne d f hk, inHand_of_ne hk, inHand_of_ne hk]
  refine ⟨h.dram, fun ha k c hc => ?_, fun ha => ?_, fun ha i => ?_, fun ha k => ?_, fun ha k => ?_⟩
  · refine h.held ha k c ?_
    rw [Device.lane_modLane] at hc
    split at hc
    · subst k; exact hh.symm.trans hc
    · exact hc
  · obtain ⟨h1, h2, h3, h4⟩ := h.list ha
    refine ⟨h1, h2, fun k i hi => h3 k i ((hsub k).subset hi), fun k => ?_⟩
    obtain ⟨z, hp, hs⟩ := hsub k
    exact hp.nodup_iff.1 ((h4 k).sublist hs)
  · obtain ⟨h1, h2, h3, h4, h5, h6, h7⟩ := h.slots ha i
    have hcount : (d.modLane l f).referencesOn i + y'.count i = d.referencesOn i + y.count i := by
      have hm := Device.referencesOn_modLane d l f i
      have hp := (hr ha).count_eq i
      rw [List.count_append, List.count_append, ← LaneUnit.referencesOn_eq, ← LaneUnit.referencesOn_eq] at hp
      omega
    refine ⟨h1, fun hs => ?_, fun hs => hcount ▸ h3 hs, fun hs => hcount ▸ h4 hs, h5, fun k hk => h6 k ?_, h7⟩
    · obtain ⟨h8, k, h9, h10⟩ := h2 hs
      refine ⟨h8, k, h9, ?_⟩
      by_cases hk : k = l
      · subst hk
        rw [Device.lane_modLane_self, inHand_self, (hw' ha).mem_iff]
        simpa using h10
      · rw [Device.lane_modLane_of_ne d f hk]
        rw [inHand_of_ne hk] at h10 ⊢
        exact h10
    · by_cases hk' : k = l
      · subst hk'
        rw [Device.lane_modLane_self, inHand_self, (hr ha).mem_iff] at hk
        simpa using hk
      · rw [Device.lane_modLane_of_ne d f hk', inHand_of_ne hk'] at hk
        rw [inHand_of_ne hk']
        exact hk
  · rw [Device.lane_modLane]
    split
    · subst k; exact hl ha (h.lanes ha _)
    · exact h.lanes ha k
  · have := h.quota ha k
    rw [Device.lane_modLane]
    split
    · subst k; rw [hq]; exact this
    · exact this

/-- A change of lane `l` that moves no slot and no reference. -/
theorem Device.Lawful.modLane_same (hh : (f (d.lane l)).op.held = (d.lane l).op.held)
    (hq : (f (d.lane l)).quota = (d.lane l).quota) (hw : (f (d.lane l)).writes = (d.lane l).writes)
    (hr : (f (d.lane l)).references = (d.lane l).references)
    (hl : a = .fieldStore → (d.lane l).LaneLaw l d.engine.running → (f (d.lane l)).LaneLaw l d.engine.running)
    (h : d.Lawful a l x y) : (d.modLane l f).Lawful a l x y :=
  .modLane hh hq (by rw [hw]) (fun _ => by rw [hw]) (fun _ => by rw [hr]) hl h

/-- A change of lane `l` that the Field Store does not see. -/
theorem Device.Lawful.modLane_beside (hh : (f (d.lane l)).op.held = (d.lane l).op.held)
    (hq : (f (d.lane l)).quota = (d.lane l).quota) (hs : (f (d.lane l)).holder = (d.lane l).holder)
    (h : d.Lawful a l x y) : (d.modLane l f).Lawful a l x y :=
  .modLane_same hh hq (LaneUnit.writes_of_holder hs) (LaneUnit.references_of_holder hs)
    (fun _ hl => hl.of_holder hs) h

end
end Sys2Proof.Machine

/-! SUPPORT. What the operations on slots, references and the running job make of the laws: a give-back takes what the event
has in hand, a reference and a slot taken come into it. -/
namespace Sys2Proof.Machine
section
variable {d : Device} {l k : Lane} {i : SlotId} {x y is : List SlotId} {a : DeviceLaw} {j : Job} {s : Slot}

/-- Fewer owned slots are no more slots in use. -/
theorem Device.slotsInUse_le {d d' : Device} (h : ∀ i, (d'.slot i).owner = some k → (d.slot i).owner = some k) :
    d'.slotsInUse k ≤ d.slotsInUse k :=
  (List.monotone_filter_right _ fun i hi => by simpa using h i (by simpa using hi)).length_le

/-- One more owned slot is one more slot in use at most. -/
theorem Device.slotsInUse_le_succ {d d' : Device}
    (h : ∀ n, n ≠ i → (d'.slot n).owner = some k → (d.slot n).owner = some k) :
    d'.slotsInUse k ≤ d.slotsInUse k + 1 := by
  have hsub : ((List.finRange 96).filter fun n => (d'.slot n).owner = some k) ⊆
      i :: ((List.finRange 96).filter fun n => (d.slot n).owner = some k) := fun n hn => by
    by_cases hni : n = i
    · simp [hni]
    · simpa [hni] using h n hni (by simpa using hn)
  exact ((List.nodup_finRange 96).filter _).subperm hsub |>.length_le

/-- A slot on which no reference is held is no lane's and no running job's reference. -/
theorem Device.SlotLaw.unreferenced (h : d.SlotLaw l x y i) (hs : (d.slot i).state ≠ .held) :
    d.referencesOn i = 0 ∧ y.count i = 0 ∧ (∀ k, i ∉ (d.lane k).references) ∧
      ∀ j, d.engine.running = some j → i ∉ j.slots := by
  have h0 := h.unheld hs
  refine ⟨by omega, by omega, fun k hk => ?_, fun j hj hi => ?_⟩
  · have hle := d.lane_referencesOn_le k i
    rw [LaneUnit.referencesOn_eq] at hle
    have := List.count_pos_iff.2 hk
    omega
  · have hle := Device.running_count_le hj i
    have := List.count_pos_iff.2 hi
    omega

/-! ## Giving back -/

/-- A give-back of all that the event has in hand keeps the law of the free list. -/
theorem Device.ListLaw.giveBack (h : d.ListLaw l x) (y : List SlotId) : (d.giveBack y x).ListLaw l [] := by
  obtain ⟨h1, h2, h3, h4⟩ := h
  have hkept (k : Lane) (i : SlotId) (hi : i ∈ (d.lane k).writes) :
      (d.giveBack y x).slot i = { d.slot i with refs := (d.slot i).refs - y.count i } := by
    obtain ⟨hs, ho⟩ := h3 k i (List.mem_append_left _ hi)
    rw [Device.giveBack_slot, if_neg]
    rintro (⟨hx, -⟩ | ⟨-, hh, -⟩)
    · have hl : k = l := by
        have := (h3 l i (List.mem_append_right _ (by simpa using hx))).2
        rw [ho] at this
        exact Option.some.inj this
      subst hl
      have hn := h4 k
      rw [inHand_self] at hn
      exact List.disjoint_of_nodup_append hn hi hx
    · rw [hs] at hh; cases hh
  refine ⟨?_, fun i => ?_, fun k i hi => ?_, fun k => ?_⟩
  · rw [Device.giveBack_freeList]
    refine List.nodup_append'.2 ⟨h1, Device.slotsToFree_nodup _ _ _, fun i hi hg => ?_⟩
    have hf := (h2 i).1 hi
    rcases (Device.mem_given d i y x).1 hg with ⟨-, hs⟩ | ⟨-, hs, -⟩ <;> rw [hf] at hs <;> cases hs
  · rw [Device.giveBack_freeList, List.mem_append, h2, Device.mem_given, Device.giveBack_slot]
    split <;> simp_all [Slot.empty]
  · rw [Device.giveBack_lane, inHand_nil, List.append_nil] at hi
    rw [hkept k i hi]
    exact h3 k i (List.mem_append_left _ hi)
  · rw [Device.giveBack_lane, inHand_nil, List.append_nil]
    exact (h4 k).sublist (List.sublist_append_left _ _)

theorem Device.referencesOn_giveBack (refs writing : List SlotId) :
    (d.giveBack refs writing).referencesOn i = d.referencesOn i := by
  simp [Device.referencesOn]

/-- A give-back of all that the event has in hand keeps every slot's law. -/
theorem Device.SlotLaw.giveBack (h : d.SlotLaw l x y i) : (d.giveBack y x).SlotLaw l [] [] i := by
  have hcount : i ∉ y → y.count i = 0 := List.count_eq_zero.2
  by_cases hg : (i ∈ x ∧ (d.slot i).state = .writing) ∨
      (i ∈ y ∧ (d.slot i).state = .held ∧ (d.slot i).refs - y.count i = 0)
  · have hslot : (d.giveBack y x).slot i = Slot.empty := by rw [Device.giveBack_slot, if_pos hg]
    have hzero : d.referencesOn i = 0 := by
      rcases hg with ⟨-, hs⟩ | ⟨-, hs, hr⟩
      · exact (h.unreferenced (by rw [hs]; decide)).1
      · have := (h.held hs).1
        omega
    refine ⟨fun _ => hslot, ?_, ?_, fun _ => ?_, ?_, fun k hk => ?_, fun j hj hi => ?_⟩
    · rw [hslot]; exact nofun
    · rw [hslot]; exact nofun
    · rw [Device.referencesOn_giveBack, hzero]; rfl
    · rw [hslot]; exact fun hf => absurd rfl hf
    · rw [Device.giveBack_lane, inHand_nil, List.append_nil] at hk
      have hle := d.lane_referencesOn_le k i
      rw [LaneUnit.referencesOn_eq] at hle
      have := List.count_pos_iff.2 hk
      omega
    · rw [Device.giveBack_engine] at hj
      have hle := Device.running_count_le hj i
      have := List.count_pos_iff.2 hi
      omega
  · have hslot : (d.giveBack y x).slot i = { d.slot i with refs := (d.slot i).refs - y.count i } := by
      rw [Device.giveBack_slot, if_neg hg]
    obtain ⟨h1, h2, h3, h4, h5, h6, h7⟩ := h
    refine ⟨fun hs => ?_, fun hs => ?_, fun hs => ?_, fun hs => ?_, ?_, fun k hk => ?_, ?_⟩
    · rw [hslot] at hs ⊢
      rw [h1 hs, Slot.empty]
      simp
    · rw [hslot] at hs ⊢
      obtain ⟨hr, k, ho, hi⟩ := h2 hs
      refine ⟨by simp [hr], k, ho, ?_⟩
      rw [Device.giveBack_lane, inHand_nil, List.append_nil]
      refine (List.mem_append.1 hi).resolve_right fun hx => hg (.inl ⟨?_, hs⟩)
      rw [inHand] at hx
      split at hx
      · exact hx
      · cases hx
    · rw [hslot] at hs ⊢
      rw [Device.referencesOn_giveBack]
      obtain ⟨hr, hp⟩ := h3 hs
      refine ⟨by simp [hr], ?_⟩
      by_cases hy : i ∈ y
      · have hz : (d.slot i).refs - y.count i ≠ 0 := fun hz => hg (.inr ⟨hy, hs, hz⟩)
        exact Nat.one_le_iff_ne_zero.2 hz
      · simpa [hcount hy] using hp
    · rw [hslot] at hs
      rw [Device.referencesOn_giveBack]
      have := h4 hs
      simp
      omega
    · rw [hslot]; exact h5
    · rw [Device.giveBack_lane, inHand_nil, List.append_nil] at hk
      rw [hslot]
      exact h6 k (List.mem_append_left _ hk)
    · rw [hslot, Device.giveBack_engine]; exact h7

/-- A give-back of all that the event has in hand. -/
theorem Device.Lawful.giveBack (h : d.Lawful a l x y) : (d.giveBack y x).Lawful a l [] [] := by
  refine ⟨fun ha => ?_, fun ha k c => ?_, fun ha => (h.list ha).giveBack y, fun ha i => (h.slots ha i).giveBack,
    fun ha k => ?_, fun ha k => ?_⟩
  · rw [Device.giveBack_dram]; exact h.dram ha
  · rw [Device.giveBack_lane]; exact h.held ha k c
  · rw [Device.giveBack_lane, Device.giveBack_engine]; exact h.lanes ha k
  · rw [Device.giveBack_lane]
    refine (Device.slotsInUse_le fun i hi => ?_).trans (h.quota ha k)
    rw [Device.giveBack_slot] at hi
    split at hi
    · cases hi
    · exact hi

/-! ## Taking references -/

/-- References taken on HELD slots of the event's lane are in its hand. -/
theorem Device.Lawful.takeRefs
    (hs : a = .fieldStore → ∀ i ∈ is, (d.slot i).state = .held ∧ (d.slot i).owner = some l)
    (h : d.Lawful a l x y) : (is.foldl Device.takeRef d).Lawful a l x (is ++ y) := by
  have hlane (k : Lane) : (is.foldl Device.takeRef d).lane k = d.lane k :=
    foldl_keeps Device.takeRef (fun d => d.lane k) (fun _ _ => rfl) is d
  have hrefs (i : SlotId) : (is.foldl Device.takeRef d).referencesOn i = d.referencesOn i := by
    simp [Device.referencesOn, hlane]
  refine ⟨fun ha => ?_, fun ha k c => ?_, fun ha => ?_, fun ha i => ?_, fun ha k => ?_, fun ha k => ?_⟩
  · rw [Device.takeRefs_dram]; exact h.dram ha
  · rw [hlane]; exact h.held ha k c
  · obtain ⟨h1, h2, h3, h4⟩ := h.list ha
    refine ⟨by simpa using h1, fun i => ?_, fun k i => ?_, fun k => ?_⟩
    · rw [Device.takeRefs_freeList, Device.slot_takeRefs]; exact h2 i
    · rw [hlane, Device.slot_takeRefs]; exact h3 k i
    · rw [hlane]; exact h4 k
  · obtain ⟨h1, h2, h3, h4, h5, h6, h7⟩ := h.slots ha i
    have hno (hn : (d.slot i).state ≠ .held) : is.count i = 0 :=
      List.count_eq_zero.2 fun hi => hn (hs ha i hi).1
    have hslot := Device.slot_takeRefs d i is
    have hstate := congrArg Slot.state hslot
    have howner := congrArg Slot.owner hslot
    have hcount := congrArg Slot.refs hslot
    have hrecord := congrArg Slot.record hslot
    simp only at hstate howner hcount hrecord
    refine ⟨fun hf => ?_, fun hw => ?_, fun hh => ?_, fun hn => ?_, ?_, fun k hk => ?_, ?_⟩
    · rw [hstate] at hf
      rw [hslot, h1 hf, hno (by rw [hf]; decide)]
      rfl
    · rw [hstate] at hw
      rw [hcount, howner, hno (by rw [hw]; decide)]
      simpa only [hlane, Nat.add_zero] using h2 hw
    · rw [hstate] at hh
      rw [hcount, hrefs, List.count_append]
      have := h3 hh
      omega
    · rw [hstate] at hn
      rw [hrefs, List.count_append, hno hn, Nat.zero_add]
      exact h4 hn
    · rw [hstate, hrecord]; exact h5
    · rw [hlane] at hk
      rw [howner]
      by_cases hkl : k = l
      · subst hkl
        rw [inHand_self, List.mem_append, List.mem_append, or_left_comm] at hk
        rcases hk with hi | hi
        · exact (hs ha i hi).2
        · exact h6 k (by simpa using hi)
      · rw [inHand_of_ne hkl] at hk
        exact h6 k (by rw [inHand_of_ne hkl]; exact hk)
    · rw [howner, Device.takeRefs_engine]; exact h7
  · rw [hlane, Device.takeRefs_engine]; exact h.lanes ha k
  · rw [hlane, Device.slotsInUse_congr (d := d) fun i => by rw [Device.slot_takeRefs]]
    exact h.quota ha k

/-! ## Slots that change their state -/

theorem mem_inHand : i ∈ inHand l x k ↔ k = l ∧ i ∈ x := by
  rw [inHand]
  split <;> simp_all

/-- The law of a slot that neither the change nor the event's hand concerns. -/
theorem Device.SlotLaw.congr {d' : Device} {x' y' : List SlotId} (hslot : d'.slot i = d.slot i)
    (hlane : ∀ k, d'.lane k = d.lane k) (hrun : d'.engine.running = d.engine.running) (hx : i ∈ x → i ∈ x')
    (hy : y'.count i = y.count i) (h : d.SlotLaw l x y i) : d'.SlotLaw l x' y' i := by
  obtain ⟨h1, h2, h3, h4, h5, h6, h7⟩ := h
  have hrefs : d'.referencesOn i = d.referencesOn i := by
    simp only [Device.referencesOn, hlane, Engine.referencesOn, hrun]
  have hmem : i ∈ y' ↔ i ∈ y := by rw [← List.count_pos_iff, ← List.count_pos_iff, hy]
  refine ⟨by rwa [hslot], fun hs => ?_, ?_, ?_, by rwa [hslot], fun k hk => ?_, ?_⟩
  · rw [hslot] at hs ⊢
    obtain ⟨hr, k, ho, hi⟩ := h2 hs
    refine ⟨hr, k, ho, ?_⟩
    rw [hlane]
    rw [List.mem_append, mem_inHand] at hi ⊢
    exact hi.imp_right fun hk => ⟨hk.1, hx hk.2⟩
  · rwa [hslot, hrefs, hy]
  · rwa [hslot, hrefs, hy]
  · rw [hslot]
    refine h6 k ?_
    rw [hlane] at hk
    rw [List.mem_append, mem_inHand] at hk ⊢
    rwa [hmem] at hk
  · rwa [hslot, hrun]

/-- The event's WRITING slot `i` becomes HELD with one reference, which the event then has in hand. -/
theorem Device.Lawful.holdSlot (hs : s = { d.slot i with state := .held, refs := 1 }) (h : d.Lawful a l (i :: x) y) :
    (d.setSlot i s).Lawful a l x (i :: y) := by
  refine ⟨h.dram, h.held, fun ha => ?_, fun ha n => ?_, h.lanes, fun ha k => ?_⟩
  · obtain ⟨h1, h2, h3, h4⟩ := h.list ha
    have hi := h3 l i (by simp)
    have hne (k : Lane) (n : SlotId) (hn : n ∈ (d.lane k).writes ++ inHand l x k) :
        n ≠ i ∧ n ∈ (d.lane k).writes ++ inHand l (i :: x) k := by
      have hin : n ∈ (d.lane k).writes ++ inHand l (i :: x) k := by
        rw [List.mem_append, mem_inHand] at hn ⊢
        exact hn.imp_right fun hk => ⟨hk.1, List.mem_cons_of_mem _ hk.2⟩
      refine ⟨?_, hin⟩
      rintro rfl
      have hk : k = l := Option.some.inj ((h3 k n hin).2.symm.trans hi.2)
      subst hk
      have := h4 k
      rw [inHand_self, List.nodup_middle] at this
      rw [inHand_self] at hn
      exact (List.nodup_cons.1 this).1 hn
    refine ⟨h1, fun n => ?_, fun k n hn => ?_, fun k => ?_⟩
    · rw [Device.slot_setSlot]
      split
      · subst hs; subst n
        refine (h2 i).trans ?_
        simp [hi.1]
      · exact h2 n
    · obtain ⟨hni, hin⟩ := hne k n hn
      rw [Device.slot_setSlot, if_neg hni]
      exact h3 k n hin
    · refine (h4 k).sublist (List.Sublist.append_left ?_ _)
      simp only [inHand]
      split <;> simp
  · by_cases hn : n = i
    · subst hn hs
      have hw := (h.list (.inr ha)).owned l n (by simp)
      have hl := h.slots ha n
      obtain ⟨hr, hy, hk, hj⟩ := hl.unreferenced (by rw [hw.1]; decide)
      have hr' : (d.setSlot n { d.slot n with state := .held, refs := 1 }).referencesOn n = 0 := hr
      refine ⟨?_, ?_, fun _ => ?_, ?_, ?_, fun k hi => ?_, fun j hrun hi => absurd hi (hj j hrun)⟩ <;>
        simp only [Device.slot_setSlot_self]
      · exact nofun
      · exact nofun
      · rw [hr', List.count_cons_self, hy]; exact ⟨rfl, le_rfl⟩
      · exact fun hf => absurd rfl hf
      · exact fun _ => hl.record (by rw [hw.1]; decide)
      · rw [List.mem_append, mem_inHand] at hi
        rcases hi with hi | ⟨rfl, -⟩
        · exact absurd hi (hk k)
        · exact hw.2
    · exact (h.slots ha n).congr (Device.slot_setSlot_of_ne d s hn) (fun _ => rfl) rfl
        (fun hx => List.mem_of_ne_of_mem hn hx) (List.count_cons_of_ne (Ne.symm hn))
  · refine (Device.slotsInUse_congr fun n => ?_).trans_le (h.quota ha k)
    rw [Device.slot_setSlot]
    split
    · subst hs; subst n; rfl
    · rfl

/-- The free list's head becomes a WRITING slot of the event's lane, which the event then has in hand. -/
theorem Device.Lawful.takeHead {d' : Device} {rest : List SlotId} {seq : Nat} {parity : Parity} {held : Bool}
    (hd : d' = { d.setSlot i (Slot.taken l seq parity held) with freeList := rest })
    (hf : d.freeList = i :: rest) (hq : a = .fieldStore → d.slotsInUse l < (d.lane l).quota) (h : d.Lawful a l x y) :
    d'.Lawful a l (i :: x) y := by
  have hself : d'.slot i = Slot.taken l seq parity held := by subst hd; exact Device.slot_setSlot_self d i _
  have hother {n : SlotId} (hn : n ≠ i) : d'.slot n = d.slot n := by
    subst hd; exact Device.slot_setSlot_of_ne d _ hn
  have hlane (k : Lane) : d'.lane k = d.lane k := by subst hd; rfl
  have hengine : d'.engine = d.engine := by subst hd; rfl
  have hlist : d'.freeList = rest := by subst hd; rfl
  have hdram : d'.dram = d.dram := by subst hd; rfl
  clear hd
  have hfree (ha : a = .freeList ∨ a = .fieldStore) : (d.slot i).state = .free :=
    ((h.list ha).mem i).1 (by simp [hf])
  refine ⟨fun ha => hdram ▸ h.dram ha, fun ha k c => ?_, fun ha => ?_, fun ha n => ?_, fun ha k => ?_, fun ha k => ?_⟩
  · rw [hlane]; exact h.held ha k c
  · obtain ⟨h1, h2, h3, h4⟩ := h.list ha
    rw [hf, List.nodup_cons] at h1
    have hne (k : Lane) (n : SlotId) (hn : n ∈ (d.lane k).writes ++ inHand l x k) : n ≠ i := by
      rintro rfl
      have := hfree ha
      rw [(h3 k n hn).1] at this
      cases this
    refine ⟨hlist ▸ h1.2, fun n => ?_, fun k n hn => ?_, fun k => ?_⟩
    · rw [hlist]
      by_cases hn : n = i
      · subst hn
        rw [hself]
        simp [h1.1, Slot.taken]
      · rw [hother hn, ← h2 n, hf]
        simp [hn]
    · rw [hlane, List.mem_append, mem_inHand] at hn
      by_cases hni : n = i
      · subst hni
        rcases hn with hn | ⟨rfl, -⟩
        · exact absurd rfl (hne k n (List.mem_append_left _ hn))
        · rw [hself]; exact ⟨rfl, rfl⟩
      · rw [hother hni]
        refine h3 k n ?_
        rw [List.mem_append, mem_inHand]
        exact hn.imp_right fun hk => ⟨hk.1, List.mem_of_ne_of_mem hni hk.2⟩
    · rw [hlane]
      have hk4 := h4 k
      by_cases hk : k = l
      · subst hk
        have hki := hne k i
        rw [inHand_self] at hk4 hki ⊢
        exact List.nodup_middle.2 (List.nodup_cons.2 ⟨fun hi => hki hi rfl, hk4⟩)
      · rw [inHand_of_ne hk] at hk4 ⊢
        exact hk4
  · by_cases hn : n = i
    · subst hn
      obtain ⟨hr, hy, hk, hj⟩ := (h.slots ha n).unreferenced (by rw [hfree (.inr ha)]; decide)
      have hr' : d'.referencesOn n = 0 := by
        simpa only [Device.referencesOn, hlane, Engine.referencesOn, hengine] using hr
      refine ⟨?_, fun _ => ⟨?_, l, ?_, by simp⟩, ?_, fun _ => by omega, fun _ => ?_, fun k hi => ?_, fun j hrun hi => ?_⟩
      · rw [hself]; exact nofun
      · rw [hself]; rfl
      · rw [hself]; rfl
      · rw [hself]; exact nofun
      · rw [hself]; rfl
      · rw [hlane, List.mem_append, mem_inHand] at hi
        rcases hi with hi | ⟨-, hi⟩
        · exact absurd hi (hk k)
        · exact absurd (List.count_pos_iff.2 hi) (by omega)
      · rw [hengine] at hrun
        exact absurd hi (hj j hrun)
    · exact (h.slots ha n).congr (hother hn) hlane (by rw [hengine]) (fun hx => List.mem_cons_of_mem _ hx) rfl
  · rw [hlane, hengine]; exact h.lanes ha k
  · rw [hlane]
    by_cases hk : k = l
    · subst hk
      exact (Device.slotsInUse_le_succ (i := i) fun n hn ho => by rwa [hother hn] at ho).trans (hq ha)
    · refine (Device.slotsInUse_le fun n ho => ?_).trans (h.quota ha k)
      by_cases hn : n = i
      · subst hn
        rw [hself] at ho
        exact absurd (Option.some.inj ho).symm hk
      · rwa [hother hn] at ho

/-! ## The running job -/

/-- A change of the running job alone, by what it makes of the references in hand. -/
theorem Device.Lawful.ofEngine {d' : Device} {y' : List SlotId} {e : Engine} (hd : d' = { d with engine := e })
    (hcount : a = .fieldStore → ∀ i, e.referencesOn i + y'.count i = d.engine.referencesOn i + y.count i)
    (howner : a = .fieldStore → ∀ i ∈ y', i ∈ y ∨ (d.slot i).owner = some l)
    (hrun : a = .fieldStore → ∀ j, e.running = some j → (∀ i ∈ j.slots, (d.slot i).owner = some j.lane) ∧
      (d.lane j.lane).ingest.state ≠ .off)
    (h : d.Lawful a l x y) : d'.Lawful a l x y' := by
  have hlane (k : Lane) : d'.lane k = d.lane k := by subst hd; rfl
  have hslot (i : SlotId) : d'.slot i = d.slot i := by subst hd; rfl
  have hengine : d'.engine = e := by subst hd; rfl
  have hlist : d'.freeList = d.freeList := by subst hd; rfl
  have hdram : d'.dram = d.dram := by subst hd; rfl
  clear hd
  refine ⟨fun ha => hdram ▸ h.dram ha, fun ha k c => ?_, fun ha => ?_, fun ha i => ?_, fun ha k => ?_, fun ha k => ?_⟩
  · rw [hlane]; exact h.held ha k c
  · obtain ⟨h1, h2, h3, h4⟩ := h.list ha
    exact ⟨hlist ▸ h1, fun i => by rw [hlist, hslot]; exact h2 i, fun k i => by rw [hlane, hslot]; exact h3 k i,
      fun k => by rw [hlane]; exact h4 k⟩
  · obtain ⟨h1, h2, h3, h4, h5, h6, h7⟩ := h.slots ha i
    have hsum : d'.referencesOn i + y'.count i = d.referencesOn i + y.count i := by
      have := hcount ha i
      simp only [Device.referencesOn, hlane, hengine]
      omega
    refine ⟨by rwa [hslot], ?_, ?_, ?_, by rwa [hslot], fun k hk => ?_, fun j hj hi => ?_⟩
    · simpa only [hslot, hlane] using h2
    · rwa [hslot, hsum]
    · rwa [hslot, hsum]
    · rw [hslot]
      rw [hlane, List.mem_append, mem_inHand] at hk
      rcases hk with hk | ⟨rfl, hi⟩
      · exact h6 k (List.mem_append_left _ hk)
      · rcases howner ha i hi with hy | ho
        · exact h6 k (List.mem_append_right _ (mem_inHand.2 ⟨rfl, hy⟩))
        · exact ho
    · rw [hslot]
      rw [hengine] at hj
      exact (hrun ha j hj).1 i hi
  · obtain ⟨h1, h2, h3, h4, h5⟩ := h.lanes ha k
    rw [hlane, hengine]
    refine ⟨h1, h2, h3, h4, fun ho => ?_⟩
    obtain ⟨g1, g2, g3, g4, -⟩ := h5 ho
    refine ⟨g1, g2, g3, g4, fun j hj hk => ?_⟩
    subst hk
    exact (hrun ha j hj).2 ho
  · rw [hlane, Device.slotsInUse_congr (d := d) fun i => by rw [hslot]]
    exact h.quota ha k

/-- The references in hand become those of a job that starts to run. -/
theorem Device.Lawful.startJob {d' : Device} {p : Lane} (hd : d' = { d with engine := ⟨some j, p⟩ })
    (hr : d.engine.running = none) (hl : a = .fieldStore → j.lane = l ∧ (d.lane l).ingest.state ≠ .off)
    (h : d.Lawful a l x j.slots) : d'.Lawful a l x [] := by
  refine .ofEngine hd (fun _ i => by simp [Engine.referencesOn, hr]) (fun _ => nofun) (fun ha m hm => ?_) h
  obtain ⟨hjl, ho⟩ := hl ha
  rw [← Option.some.inj hm, hjl]
  exact ⟨fun i hi => (h.slots ha i).owner l (by simp [hi]), ho⟩

/-- The running job goes, and its references are in hand. -/
theorem Device.Lawful.endJob {d' : Device} (hd : d' = { d with engine := { d.engine with running := none } })
    (hr : d.engine.running = some j) (hl : j.lane = l) (h : d.Lawful a l x y) : d'.Lawful a l x (j.slots ++ y) := by
  refine .ofEngine hd (fun _ i => by simp [Engine.referencesOn, hr]) (fun ha i hi => ?_)
    (fun _ m hm => by simp at hm) h
  rcases List.mem_append.1 hi with hi | hi
  · exact .inr (((h.slots ha i).running j hr hi).trans (congrArg some hl))
  · exact .inl hi

end
end Sys2Proof.Machine

/-! SUPPORT. The events of the operations and of the completion chain keep the four laws. -/
namespace Sys2Proof.Machine
section
variable {d : Device} {e : Ev} {l k : Lane} {i : SlotId} {x y : List SlotId} {a : DeviceLaw} {q : Nat}
  {g : Controller → Controller}

/-! ## What an Operation Controller does to itself -/

@[simp] theorem Controller.holds_observe (op : Controller) (c : Cause) : (op.observe c).holds = op.holds := by
  unfold Controller.observe; split <;> rfl
@[simp] theorem Controller.holds_count (op : Controller) (f : Counts → Counts) : (op.count f).holds = op.holds := by
  unfold Controller.count; split <;> rfl
@[simp] theorem Controller.holds_drop (op : Controller) : op.drop.holds = op.holds := by simp [Controller.drop]
@[simp] theorem Controller.holds_nameField (op : Controller) (r : FieldRecord) : (op.nameField r).holds = op.holds := by
  unfold Controller.nameField; split <;> rfl
@[simp] theorem Controller.holds_noJobFor (op : Controller) (r : FieldRecord) : (op.noJobFor r).holds = op.holds := by
  unfold Controller.noJobFor; split <;> rfl
@[simp] theorem Controller.holds_accept (op : Controller) (st : OpState) (tag : Byte) :
    (op.accept st tag).holds = op.holds := rfl
@[simp] theorem Controller.holds_frameSent (op : Controller) (f : Frame) : (op.frameSent f).holds = op.holds := by
  unfold Controller.frameSent
  split
  · split <;> simp
  · rfl

/-- An event's change of lane `l` that the Field Store does not see. -/
theorem Device.Lawful.beside {f : LaneUnit → LaneUnit} (h : e.dev.Lawful a l x y)
    (hh : (f (e.dev.lane l)).op.held = (e.dev.lane l).op.held) (hq : (f (e.dev.lane l)).quota = (e.dev.lane l).quota)
    (hs : (f (e.dev.lane l)).holder = (e.dev.lane l).holder) : (e.modLane l f).dev.Lawful a l x y :=
  .modLane_beside hh hq hs h

/-- A change of lane `l`'s operation beside its pending jobs and its held completion. -/
theorem Device.Lawful.modOp (h : e.dev.Lawful a l x y)
    (hg : (g (e.dev.lane l).op).holds = (e.dev.lane l).op.holds) : (e.modOp l g).dev.Lawful a l x y := by
  have hj := congrArg Prod.fst hg
  refine h.beside (congrArg Prod.snd hg) rfl ?_
  simp only [LaneUnit.holder, show (g (e.dev.lane l).op).jobs = (e.dev.lane l).op.jobs from hj]

section
variable (h : e.dev.Lawful a l x y)
include h

theorem Device.Lawful.setMonitor (m : Monitor) (q : Nat) : (e.setMonitor l m q).dev.Lawful a l x y := by
  have hm : (e.modLane l fun u => { u with monitor := m }).dev.Lawful a l x y := h.beside rfl rfl rfl
  unfold Ev.setMonitor
  dsimp only
  split <;> exact hm

theorem Device.Lawful.resetTracker (q : Nat) : (e.resetTracker l q).dev.Lawful a l x y := h.setMonitor _ q

theorem Device.Lawful.complete (p : OpPart) : (e.complete l p).dev.Lawful a l x y :=
  h.modOp (g := fun op => { op with state := .idle, snapshot := none, waitTimer := false, lastTag := op.markCompleted })
    rfl

theorem Device.Lawful.endNow (c : EndClass) (z : Option Cause) (p : OpPart) : (e.endNow l c z p).dev.Lawful a l x y :=
  Device.Lawful.complete (h.modOp (g := fun op => op.recordEnd c z) rfl) p

theorem Device.Lawful.settle : (e.settle l).dev.Lawful a l x y := by
  unfold Ev.settle
  split
  · split
    · exact h.complete _
    · exact h
  · exact h

theorem Device.Lawful.endTransfer (c : EndClass) (z : Option Cause) : (e.endTransfer l c z).dev.Lawful a l x y := by
  refine Device.Lawful.settle (h.modOp ?_)
  split <;> rfl

theorem Device.Lawful.sourceChange (st : LaneState) : (e.sourceChange l st).dev.Lawful a l x y := by
  unfold Ev.sourceChange
  dsimp only
  split
  · exact h.endNow _ _ _
  · exact h.endNow _ _ _
  · exact h.endNow _ _ _
  · exact h.endNow _ _ _
  · exact h.endTransfer _ _
  · exact h

theorem Device.Lawful.acquired : (e.acquired l).dev.Lawful a l x y := by
  unfold Ev.acquired
  split
  · exact h.endNow _ _ _
  · exact h

theorem Device.Lawful.abort : (e.abort l).dev.Lawful a l x y := by
  unfold Ev.abort
  split
  · exact h
  · exact h.endNow _ _ _

theorem Device.Lawful.stopOnDrop : (e.stopOnDrop l).dev.Lawful a l x y := by
  unfold Ev.stopOnDrop
  split
  · split
    · exact h.endTransfer _ _
    · exact h
  · exact h

theorem Device.Lawful.openEpisode (q : Nat) : (e.openEpisode l q).dev.Lawful a l x y := by
  unfold Ev.openEpisode
  split
  · exact h
  · exact h.beside (f := fun u => { u with overrun := true }) rfl rfl rfl

theorem Device.Lawful.dropField (q : Nat) : (e.dropField l q).dev.Lawful a l x y :=
  (Device.Lawful.stopOnDrop (h.modOp (Controller.holds_drop _))).openEpisode q

theorem Device.Lawful.reportFieldStart : (e.reportFieldStart l).dev.Lawful a l x y := by
  have hc : (e.modOp l fun op => { op with seekingCount := op.seekingCount + 1 }).dev.Lawful a l x y := h.modOp rfl
  unfold Ev.reportFieldStart
  dsimp only
  split
  · split
    · exact hc.endNow _ _ _
    · exact hc
  · exact h

theorem Device.Lawful.waitExpiry : (e.waitExpiry l).dev.Lawful a l x y := by
  unfold Ev.waitExpiry
  dsimp only
  split
  · split
    · exact h.endNow _ _ _
    · exact h
  · exact h

theorem Device.Lawful.windowEnd (seen : SeenLevels) : (e.windowEnd l seen).dev.Lawful a l x y := by
  unfold Ev.windowEnd
  split
  · exact h.endNow _ _ _
  · exact h

theorem Device.Lawful.watch (f : LineWatch → LineWatch) : (e.watch l f).dev.Lawful a l x y := by
  refine h.modOp ?_
  split <;> rfl

theorem Device.Lawful.amend (st : SubState) (p : TransferParams) (t : TransferEnd) :
    (e.amend l st p t).dev.Lawful a l x y := by
  have hc : (e.modOp l fun op => { op with
      state := .transfer st { p with ending := t }, causes := insertCause .amended op.causes }).dev.Lawful a l x y :=
    h.modOp rfl
  unfold Ev.amend
  dsimp only
  split
  · exact hc.endTransfer _ _
  · exact hc

theorem Device.Lawful.cueField (r : FieldRecord) (m : CueMode) (t n : Nat) :
    (e.cueField l r m t n).dev.Lawful a l x y := by
  have h1 : (e.modOp l fun op => { op with limitCount := op.limitCount + 1 }).dev.Lawful a l x y := h.modOp rfl
  have h2 (ix : Nat) : ((e.modOp l fun op => { op with limitCount := op.limitCount + 1 }).modOp l fun op =>
      { op with previousIndex := some ix }).dev.Lawful a l x y := h1.modOp rfl
  unfold Ev.cueField
  dsimp only
  split
  · split
    · exact h1.endNow _ _ _
    · exact h1
  · split
    · exact h1.endNow _ _ _
    · split
      · exact h1.endNow _ _ _
      · split
        · exact (h2 _).endNow _ _ _
        · exact h2 _

theorem Device.Lawful.scanField (r : FieldRecord) (p : ScanParams) : (e.scanField l r p).dev.Lawful a l x y := by
  have h1 : (e.modOp l fun op => { op with limitCount := op.limitCount + 1 }).dev.Lawful a l x y := h.modOp rfl
  unfold Ev.scanField
  dsimp only
  split
  · exact h1.endNow _ _ _
  · split
    · exact h1.endNow _ _ _
    · exact h1

theorem Device.Lawful.testEnd (r : FieldRecord) : (e.testEnd l r).dev.Lawful a l x y := by
  unfold Ev.testEnd
  dsimp only
  split
  · split
    · exact h.endTransfer _ _
    · exact h
  · exact h

end

/-! ## Jobs that become READY -/

theorem Device.readyJob_of_not_waiting {j : Job} {n : Option SlotId} (hj : j.state ≠ .waitingNext) :
    d.readyJob n j = j := by
  unfold Device.readyJob
  split
  · contradiction
  · rfl

@[simp] theorem Device.readyJob_lane {j : Job} {n : Option SlotId} : (d.readyJob n j).lane = j.lane := by
  unfold Device.readyJob
  split <;> rfl

/-- A waiting job that lists no next field takes one more reference as it becomes READY, on its next field if it has one. -/
theorem Device.readyJob_slots {j : Job} {n : Option SlotId} (hj : j.state = .waitingNext) (hn : j.fieldNext = none) :
    (d.readyJob n j).slots = j.slots ++ n.toList := by
  simp [Device.readyJob, hj, Job.slots, hn]

/-- Of a queue in which one job waits, that job alone changes as the waiting job becomes READY. -/
theorem Device.readyJobs_slots {js : List Job} {n : Option SlotId} (hone : (js.filter fun j => j.state = .waitingNext).length = 1)
    (hnext : ∀ j ∈ js, j.state = .waitingNext → j.fieldNext = none) :
    ((js.map (d.readyJob n)).flatMap Job.slots).Perm (n.toList ++ js.flatMap Job.slots) := by
  induction js with
  | nil => simp at hone
  | cons j js ih =>
    by_cases hj : j.state = .waitingNext
    · have hnone : ∀ m ∈ js, m.state ≠ .waitingNext := by
        have h0 : (js.filter fun m => m.state = .waitingNext) = [] := by simpa [hj] using hone
        simpa [List.filter_eq_nil_iff] using h0
      have hmap : js.map (d.readyJob n) = js :=
        (List.map_congr_left fun m hm => Device.readyJob_of_not_waiting (hnone m hm)).trans (List.map_id _)
      rw [List.map_cons, hmap, List.flatMap_cons, List.flatMap_cons,
        Device.readyJob_slots hj (hnext j (by simp) hj), List.append_assoc, ← List.append_assoc n.toList]
      rw [← List.append_assoc]
      exact List.perm_append_comm.append_right _
    · have ih' := ih (by simpa [hj] using hone) fun m hm => hnext m (by simp [hm])
      rw [List.map_cons, List.flatMap_cons, List.flatMap_cons, Device.readyJob_of_not_waiting hj]
      refine (ih'.append_left j.slots).trans ?_
      rw [← List.append_assoc, ← List.append_assoc]
      exact List.perm_append_comm.append_right _

/-- A slot on which a lane holds a reference is HELD and the lane's own. -/
theorem Device.Lawful.referenced (h : d.Lawful a l x y) (ha : a = .fieldStore) (hi : i ∈ (d.lane k).references) :
    (d.slot i).state = .held ∧ (d.slot i).owner = some k := by
  refine ⟨?_, (h.slots ha i).owner k (List.mem_append_left _ hi)⟩
  by_contra hs
  exact ((h.slots ha i).unreferenced hs).2.2.1 k hi

theorem LaneUnit.mem_references_of_window {u : LaneUnit} (hi : i ∈ u.window) : i ∈ u.references :=
  List.mem_append_left _ hi

/-- The waiting job becomes READY: first the reference on its next field is taken. -/
theorem Device.readyWaiting_of_waits {n : Option SlotId} {j : Job} (hj : d.waitingJob l = some j) :
    d.readyWaiting l n = (n.toList.foldl Device.takeRef d).modLane l fun u =>
      { u with op := { u.op with jobs := u.op.jobs.map (d.readyJob n) } } := by
  unfold Device.readyWaiting
  rw [hj]
  cases n <;> rfl

theorem Device.Lawful.readyWaiting {n : Option SlotId} (h : d.Lawful a l x y)
    (hn : a = .fieldStore → ∀ i ∈ n.toList, i ∈ (d.lane l).window) : (d.readyWaiting l n).Lawful a l x y := by
  cases hj : d.waitingJob l with
  | none =>
    unfold Device.readyWaiting
    rw [hj]
    exact h
  | some j =>
    rw [Device.readyWaiting_of_waits hj]
    have h1 := h.takeRefs (is := n.toList) fun ha i hi =>
      h.referenced ha (LaneUnit.mem_references_of_window (hn ha i hi))
    have hlane : (n.toList.foldl Device.takeRef d).lane l = d.lane l :=
      foldl_keeps Device.takeRef (fun d => d.lane l) (fun _ _ => rfl) _ d
    refine .modLane rfl rfl (List.Perm.refl _).subperm (fun _ => .refl _) (fun ha => ?_) (fun ha hl => ?_) h1 <;>
      rw [hlane] at *
    · obtain ⟨-, -, hjobs, hwaits, -⟩ := h.lanes ha l
      have hone : ((d.lane l).op.jobs.filter fun j => j.state = .waitingNext).length = 1 := by
        refine Nat.le_antisymm hwaits (List.length_pos_of_mem (a := j) (List.mem_filter.2 ⟨?_, ?_⟩))
        · exact List.mem_of_find?_eq_some hj
        · exact List.find?_some (p := fun j : Job => decide (j.state = .waitingNext)) hj
      have hp := d.readyJobs_slots (n := n) hone fun m hm => (hjobs m hm).2
      show ((d.lane l).window ++ ((d.lane l).op.jobs.map (d.readyJob n)).flatMap Job.slots ++ y).Perm _
      rw [LaneUnit.references, List.append_assoc, List.append_assoc]
      refine List.Perm.append_left _ ((hp.append_right y).trans ?_)
      rw [List.append_assoc, ← List.append_assoc, ← List.append_assoc]
      exact List.perm_append_comm.append_right y
    · obtain ⟨h1, h2, h3, -, h5⟩ := hl
      refine ⟨h1, h2, fun m hm => ?_, ?_, fun ho => ?_⟩
      · obtain ⟨m', hm', rfl⟩ := List.mem_map.1 hm
        exact ⟨d.readyJob_lane.trans (h3 m' hm').1, fun hw => absurd hw (d.readyJob_state n m')⟩
      · rw [List.filter_eq_nil_iff.2]
        · exact Nat.zero_le 1
        · intro m hm
          obtain ⟨m, -, rfl⟩ := List.mem_map.1 hm
          simpa using d.readyJob_state n m
      · obtain ⟨g1, g2, g3, g4, g5⟩ := h5 ho
        exact ⟨g1, g2, g3, by rw [g4]; rfl, g5⟩

theorem Device.Lawful.lockLoss (h : e.dev.Lawful a l x y) (st : LaneState) (kept : Option Nat) :
    (e.lockLoss l st kept).dev.Lawful a l x y := by
  refine Device.Lawful.sourceChange ?_ st
  split
  · split
    · exact h
    · exact h.readyWaiting (n := none) fun _ _ hi => by simp at hi
  · exact h

theorem Device.Lawful.discontinuity (h : e.dev.Lawful a l x y) (q : Nat) : (e.discontinuity l q).dev.Lawful a l x y :=
  (h.resetTracker q).readyWaiting (n := none) fun _ _ hi => by simp at hi

/-! ## The jobs of a transfer -/

theorem Device.mem_window_of_earlier {n m : Nat} (h : d.earlier l n m = some i) : i ∈ (d.lane l).window := by
  unfold Device.earlier at h
  split at h
  · exact List.mem_of_find?_eq_some h
  · cases h

/-- The lane may queue a job: it is enabled, and no job of it waits for its next field. -/
def Device.mayQueue (a : DeviceLaw) (l : Lane) (d : Device) : Prop :=
  a = .fieldStore → (d.lane l).noneWaiting ∧ (d.lane l).ingest.state ≠ .off

theorem Device.Lawful.createJob {r : FieldRecord} {snap : Snapshot} {b : Bool} (h : d.Lawful a l x y)
    (hm : d.mayQueue a l) : (d.createJob l i r snap b).Lawful a l x y := by
  unfold Device.createJob
  extract_lets op marks job d1
  have hslots : ∀ n ∈ job.slots, n ∈ (d.lane l).window := by
    intro n hn
    simp only [Job.slots, job, List.mem_append, Option.mem_toList, Option.toList_none, List.not_mem_nil, or_false,
      or_assoc] at hn
    rcases hn with hn | hn | hn
    · exact Device.mem_window_of_earlier hn
    · exact Device.mem_window_of_earlier hn
    · split at hn
      · obtain rfl := Option.some.inj hn; assumption
      · cases hn
  have h1 : d1.Lawful a l x (job.slots ++ y) := h.takeRefs fun ha n hn =>
    h.referenced ha (LaneUnit.mem_references_of_window (hslots n hn))
  have hlane : d1.lane l = d.lane l := foldl_keeps Device.takeRef (fun d => d.lane l) (fun _ _ => rfl) _ d
  refine .modLane rfl rfl (List.Perm.refl _).subperm (fun _ => .refl _) (fun ha => ?_) (fun ha hl => ?_) h1 <;>
    rw [hlane] at *
  · simp [LaneUnit.references]
  · obtain ⟨h1, h2, h3, h4, h5⟩ := hl
    obtain ⟨hnone, hoff⟩ := hm ha
    refine ⟨h1, h2, fun m hm => ?_, ?_, fun ho => absurd ho hoff⟩
    · rcases List.mem_append.1 hm with hm | hm
      · exact h3 m hm
      · obtain rfl := List.mem_singleton.1 hm
        exact ⟨rfl, fun _ => rfl⟩
    · have hnil : ((d.lane l).op.jobs.filter fun j => j.state = .waitingNext) = [] :=
        List.filter_eq_nil_iff.2 fun m hm => by simpa using hnone m hm
      simp [List.filter_append, hnil, List.filter_cons]
      split <;> simp

theorem Device.mayQueue_modOp (hg : (g (e.dev.lane l).op).jobs = (e.dev.lane l).op.jobs) (hm : e.dev.mayQueue a l) :
    (e.modOp l g).dev.mayQueue a l := fun ha => by
  obtain ⟨h1, h2⟩ := hm ha
  refine ⟨fun j hj => h1 j ?_, by simpa using h2⟩
  rw [Ev.modOp_dev, Device.lane_modLane_self] at hj
  exact hg ▸ hj

section
variable {r : FieldRecord} {p : TransferParams} (h : e.dev.Lawful a l x y) (hm : e.dev.mayQueue a l)
include h hm

theorem Device.Lawful.dueJob : (e.dueJob l i r p).dev.Lawful a l x y := by
  have h1 : (e.modOp l fun op => { op.drop with pendingDiscontinuity := true }).dev.Lawful a l x y :=
    h.modOp (Controller.holds_drop _)
  unfold Ev.dueJob
  dsimp only
  split
  · split
    · exact h.createJob hm
    · exact h
  · split
    · exact h1.endTransfer _ _
    · exact h1

theorem Device.Lawful.judgeRunning (start : Bool) : (e.judgeRunning l i r p start).dev.Lawful a l x y := by
  have h1 : (e.modOp l fun op => op.noJobFor r).dev.Lawful a l x y := h.modOp (Controller.holds_noJobFor _ _)
  have h2 : (e.modOp l fun op => (op.count Counts.addSkipped).noJobFor r).dev.Lawful a l x y := h.modOp (by simp)
  unfold Ev.judgeRunning
  extract_lets past
  split
  · exact h1.endTransfer _ _
  · split
    · exact h1.endTransfer _ _
    · split
      · exact h2.testEnd _
      · exact (h.dueJob hm).testEnd _

theorem Device.Lawful.judgeArmed : (e.judgeArmed l i r p).dev.Lawful a l x y := by
  have h1 : (e.modOp l fun op => { op with state := .transfer .running p }).dev.Lawful a l x y := h.modOp rfl
  have hm1 : (e.modOp l fun op => { op with state := .transfer .running p }).dev.mayQueue a l :=
    Device.mayQueue_modOp rfl hm
  unfold Ev.judgeArmed
  dsimp only
  split
  · split
    · exact Device.Lawful.judgeRunning (h1.modOp (Controller.holds_observe _ _))
        (Device.mayQueue_modOp Controller.observe_jobs hm1) true
    · exact h1.judgeRunning hm1 true
  · exact h.modOp (Controller.holds_noJobFor _ _)

theorem Device.Lawful.operationField : (e.operationField l i r).dev.Lawful a l x y := by
  unfold Ev.operationField
  split
  · exact h
  · exact h
  · exact h
  · exact h.cueField _ _ _ _
  · exact h.scanField _ _
  · exact h.endNow _ _ _
  · exact h.judgeArmed hm
  · exact h.judgeRunning hm false
  · exact h

end

end
end Sys2Proof.Machine

/-! SUPPORT. What the Operation Controller's work on a field leaves alone: everything but its own lane's operation and the
reference counts. One equation for each of its steps. -/
namespace Sys2Proof.Machine
section
variable {d d' : Device} {e : Ev} {l : Lane} {i : SlotId} {r : FieldRecord} {p : TransferParams}

/-- What of lane `l` and of the stores is neither the lane's operation nor a count of references. -/
structure OffOp where
  lane     : LaneUnit
  slots    : SlotId → Slot
  freeList : List SlotId
  dram     : Dram
  engine   : Engine

/-- The part of a device that stands off lane `l`'s operation. -/
def Device.offOp (l : Lane) (d : Device) : OffOp :=
  ⟨{ d.lane l with op := Controller.reset }, fun i => { d.slot i with refs := 0 }, d.freeList, d.dram, d.engine⟩

section
variable (h : d'.offOp l = d.offOp l)
include h

theorem Device.lane_of_offOp : d'.lane l = { d.lane l with op := (d'.lane l).op } := by
  have hu := congrArg (fun o : OffOp => { o.lane with op := (d'.lane l).op }) h
  exact hu
theorem Device.record_of_offOp (k : SlotId) : d'.record k = d.record k :=
  congrArg (fun o : OffOp => (o.slots k).record) h
theorem Device.slot_of_offOp (k : SlotId) : d'.slot k = { d.slot k with refs := (d'.slot k).refs } := by
  have hs := congrArg (fun o : OffOp => { o.slots k with refs := (d'.slot k).refs }) h
  exact hs
theorem Device.freeList_of_offOp : d'.freeList = d.freeList := congrArg OffOp.freeList h
theorem Device.dram_of_offOp : d'.dram = d.dram := congrArg OffOp.dram h
theorem Device.engine_of_offOp : d'.engine = d.engine := congrArg OffOp.engine h

end

@[simp] theorem Ev.offOp_modOp (f : Controller → Controller) : (e.modOp l f).dev.offOp l = e.dev.offOp l := by
  simp [Device.offOp]

@[simp] theorem Ev.offOp_complete (z : OpPart) : (e.complete l z).dev.offOp l = e.dev.offOp l := by
  simp [Ev.complete, -Ev.modOp_dev]

@[simp] theorem Ev.offOp_endNow (c : EndClass) (z : Option Cause) (x : OpPart) :
    (e.endNow l c z x).dev.offOp l = e.dev.offOp l := (Ev.offOp_complete _).trans (Ev.offOp_modOp _)

@[simp] theorem Ev.offOp_settle : (e.settle l).dev.offOp l = e.dev.offOp l := by
  unfold Ev.settle
  split
  · split
    · exact Ev.offOp_complete _
    · rfl
  · rfl

@[simp] theorem Ev.offOp_endTransfer (c : EndClass) (z : Option Cause) :
    (e.endTransfer l c z).dev.offOp l = e.dev.offOp l := Ev.offOp_settle.trans (Ev.offOp_modOp _)

@[simp] theorem Ev.offOp_cueField (m : CueMode) (t n : Nat) : (e.cueField l r m t n).dev.offOp l = e.dev.offOp l := by
  unfold Ev.cueField
  dsimp only
  split
  · split <;> simp [-Ev.modOp_dev]
  · split
    · simp [-Ev.modOp_dev]
    · split
      · simp [-Ev.modOp_dev]
      · split <;> simp [-Ev.modOp_dev]

@[simp] theorem Ev.offOp_scanField (x : ScanParams) : (e.scanField l r x).dev.offOp l = e.dev.offOp l := by
  unfold Ev.scanField
  dsimp only
  split
  · simp [-Ev.modOp_dev]
  · split <;> simp [-Ev.modOp_dev]

@[simp] theorem Ev.offOp_testEnd : (e.testEnd l r).dev.offOp l = e.dev.offOp l := by
  unfold Ev.testEnd
  dsimp only
  split
  · split <;> simp
  · rfl

@[simp] theorem Device.offOp_takeRefs (is : List SlotId) : (is.foldl Device.takeRef d).offOp l = d.offOp l := by
  have hlane : (is.foldl Device.takeRef d).lane l = d.lane l :=
    foldl_keeps Device.takeRef (fun d => d.lane l) (fun _ _ => rfl) is d
  simp [Device.offOp, hlane, Device.slot_takeRefs]

@[simp] theorem Device.offOp_createJob (x : Snapshot) (b : Bool) : (d.createJob l i r x b).offOp l = d.offOp l := by
  unfold Device.createJob
  extract_lets op marks job d1
  rw [← Device.offOp_takeRefs (d := d) job.slots]
  simp [Device.offOp, d1]

theorem Device.offOp_readyWaiting (n : Option SlotId) : (d.readyWaiting l n).offOp l = d.offOp l := by
  cases hj : d.waitingJob l with
  | none =>
    unfold Device.readyWaiting
    rw [hj]
  | some j =>
    rw [Device.readyWaiting_of_waits hj, ← Device.offOp_takeRefs (d := d) n.toList]
    simp [Device.offOp]

@[simp] theorem Ev.offOp_readyWaiting (n : Option SlotId) : (e.readyWaiting l n).dev.offOp l = e.dev.offOp l :=
  Device.offOp_readyWaiting n

@[simp] theorem Ev.offOp_dueJob : (e.dueJob l i r p).dev.offOp l = e.dev.offOp l := by
  unfold Ev.dueJob
  dsimp only
  split
  · split <;> simp
  · split <;> simp [-Ev.modOp_dev]

@[simp] theorem Ev.offOp_judgeRunning (b : Bool) : (e.judgeRunning l i r p b).dev.offOp l = e.dev.offOp l := by
  unfold Ev.judgeRunning
  extract_lets past
  split
  · simp [-Ev.modOp_dev]
  · split
    · simp [-Ev.modOp_dev]
    · split <;> simp [-Ev.modOp_dev]

@[simp] theorem Ev.offOp_judgeArmed : (e.judgeArmed l i r p).dev.offOp l = e.dev.offOp l := by
  unfold Ev.judgeArmed
  dsimp only
  split
  · rw [Ev.offOp_judgeRunning]
    split <;> simp [-Ev.modOp_dev]
  · simp [-Ev.modOp_dev]

@[simp] theorem Ev.offOp_operationField : (e.operationField l i r).dev.offOp l = e.dev.offOp l := by
  unfold Ev.operationField
  split <;> simp

end
end Sys2Proof.Machine

/-! SUPPORT. The completion chain of a kept field keeps the four laws. -/
namespace Sys2Proof.Machine
section
variable {d : Device} {e : Ev} {l k : Lane} {i : SlotId} {x x' y y' : List SlotId} {a : DeviceLaw} {q : Nat}
  {r : FieldRecord} {m : Dram} {std : Standard}

/-! ## Repaired words keep the DRAM's form -/

theorem wf_substitute {j : SlotId} {u : RepairUnit} (h : m.wf = true) : (substitute i j u m).wf = true :=
  List.foldlRecOn (motive := fun m : Dram => m.wf = true) _ _ h fun _ hm _ _ => Dram.wf_write _ _ hm

theorem wf_interpolate {u : RepairUnit} (h : m.wf = true) : (interpolate i u m).wf = true :=
  List.foldlRecOn (motive := fun m : Dram => m.wf = true) _ _ h fun _ hm _ _ => Dram.wf_write _ _ hm

theorem wf_repairUnit {method : RepairMethod} {src : Option RepairSource} {parity : Parity} {own : List Span}
    {u : RepairUnit} (h : m.wf = true) : (repairUnit std method src parity own i m u).2.wf = true := by
  unfold repairUnit
  dsimp only
  split
  · exact wf_substitute h
  · exact wf_interpolate h
  · exact h

theorem wf_repairSpans {method : RepairMethod} {src : Option RepairSource} {parity : Parity} {own : List Span}
    (h : m.wf = true) : (repairSpans std method src parity i own m).2.wf = true := by
  have hspan (p : List Span × Dram) (hp : p.2.wf = true) (s : Span) :
      (repairSpan std method src parity own i p s).2.wf = true :=
    List.foldlRecOn (motive := fun q : SpanOutcome × Dram => q.2.wf = true) _ _ hp fun _ hq _ _ => wf_repairUnit hq
  have hall := List.foldlRecOn (motive := fun p : List Span × Dram => p.2.wf = true) own
    (repairSpan std method src parity own i) (b := ([], m)) h fun p hp s _ => hspan p hp s
  cases method
  · exact h
  · exact hall
  · exact hall

/-! ## The chain's steps -/

/-- A lane that has a field in its chain is enabled. -/
theorem Device.Lawful.enabled_of_chain {c : ChainField} (h : d.Lawful a l x y) (ha : a = .fieldStore)
    (hc : (d.lane k).chain = some c) : (d.lane k).ingest.state ≠ .off := fun ho => by
  have := ((h.lanes ha k).off ho).2.1
  rw [hc] at this
  cases this

/-- The WRITING slot of a field in the chain. -/
def chainSlotOf (c : Option ChainField) : List SlotId := ({ LaneUnit.powerOn with chain := c } : LaneUnit).chainSlot

theorem LaneUnit.writes_setChain (u : LaneUnit) (c : Option ChainField) :
    ({ u with chain := c } : LaneUnit).writes = u.openSlot ++ chainSlotOf c := rfl

theorem LaneUnit.writes_eq_chain (u : LaneUnit) : u.writes = u.openSlot ++ chainSlotOf u.chain := rfl

/-- The chain moves on: a WRITING slot goes between the chain and the event's hand, or stays. -/
theorem Device.Lawful.setChain {c : Option ChainField} (h : e.dev.Lawful a l x y)
    (hw : (chainSlotOf c ++ x').Subperm (chainSlotOf (e.dev.lane l).chain ++ x))
    (hw' : a = .fieldStore → (chainSlotOf c ++ x').Perm (chainSlotOf (e.dev.lane l).chain ++ x))
    (hj : a = .fieldStore → ∀ i, c = some ⟨.monitor, i⟩ ∨ c = some ⟨.controller, i⟩ → i ∈ (e.dev.lane l).window)
    (ho : a = .fieldStore → (e.dev.lane l).ingest.state = .off → c = none) : (e.setChain l c).dev.Lawful a l x' y := by
  refine Device.Lawful.modLane (f := fun u => { u with chain := c }) rfl rfl ?_ (fun ha => ?_) (y' := y) (fun _ => List.Perm.refl _) (fun ha hl => ?_) h
  · rw [LaneUnit.writes_setChain, LaneUnit.writes_eq_chain, List.append_assoc, List.append_assoc]
    exact (List.subperm_append_left _).2 hw
  · rw [LaneUnit.writes_setChain, LaneUnit.writes_eq_chain, List.append_assoc, List.append_assoc]
    exact (hw' ha).append_left _
  · obtain ⟨h1, -, h3, h4, h5⟩ := hl
    refine ⟨h1, hj ha, h3, h4, fun hoff => ?_⟩
    obtain ⟨g1, -, g3⟩ := h5 hoff
    exact ⟨g1, ho ha hoff, g3⟩

/-- The chain moves on with its slot where it was. -/
theorem Device.Lawful.setChain_same {c : ChainField} {c' : Option ChainField} (h : e.dev.Lawful a l x y)
    (hc : (e.dev.lane l).chain = some c) (hs : chainSlotOf c' = chainSlotOf (some c))
    (hj : a = .fieldStore → ∀ i, c' = some ⟨.monitor, i⟩ ∨ c' = some ⟨.controller, i⟩ → i ∈ (e.dev.lane l).window) :
    (e.setChain l c').dev.Lawful a l x y :=
  h.setChain (by rw [hs, hc]) (fun _ => by rw [hs, hc]) hj fun ha ho => absurd ho (h.enabled_of_chain ha hc)

theorem Device.Lawful.repairField (h : e.dev.Lawful a l x y) (hc : (e.dev.lane l).chain = some ⟨.repair, i⟩) :
    (e.repairField l i).dev.Lawful a l x y := by
  unfold Ev.repairField
  split
  · exact h
  · extract_lets u p r1 e1
    have h1 : e1.dev.Lawful a l x y := h.modRecord.setDram fun _ => wf_repairSpans
    refine Device.Lawful.setChain_same (c := ⟨.repair, i⟩) (h1.modOp (Controller.holds_count _ _)) ?_ rfl fun _ i hi => ?_
    · rw [Ev.modOp_dev, Device.lane_modLane_self]
      exact hc
    · rcases hi with hi | hi <;> cases hi

theorem Device.Lawful.monitorField (h : e.dev.Lawful a l x y) (hc : (e.dev.lane l).chain = some ⟨.monitor, i⟩) :
    (e.monitorField l i).dev.Lawful a l x y := by
  unfold Ev.monitorField
  split
  · exact h
  · rename_i r _
    extract_lets u dsame dadj j r1 e1
    have hb : (e1.setMonitor l j.1.advance r.sequence).dev.beside = e1.dev.beside := Ev.beside_setMonitor _ _
    have h1 : e1.dev.Lawful a l x y := h.modRecord
    refine Device.Lawful.setChain_same (c := ⟨.monitor, i⟩) (h1.setMonitor j.1.advance r.sequence) ?_ rfl
      fun ha i' hi => ?_
    · rw [Device.chain_of_beside hb]; exact hc
    · rw [Device.window_of_beside hb]
      rcases hi with hi | hi <;> cases hi
      exact (h.lanes ha l).joined i (.inl hc)

theorem Device.Lawful.takeField (h : e.dev.Lawful a l x y) (hc : (e.dev.lane l).chain = some ⟨.controller, i⟩) :
    (e.takeField l i).dev.Lawful a l x y := by
  unfold Ev.takeField
  split
  · exact h
  · rename_i r _
    extract_lets e1 e2
    have h1 : e1.dev.Lawful a l x y := h.readyWaiting fun ha n hn => by
      unfold Device.nextFor at hn
      split at hn
      · split at hn
        · obtain rfl := Option.some.inj (Option.mem_toList.1 hn)
          exact (h.lanes ha l).joined _ (.inr hc)
        · simp at hn
      · simp at hn
    have h2 : e2.dev.Lawful a l x y := h1.modOp (by split <;> simp)
    have hm : e2.dev.mayQueue a l := Device.mayQueue_modOp (by split <;> simp) fun ha =>
      ⟨Ev.noneWaiting_readyWaiting _, by
        rw [Device.lane_of_offOp (Ev.offOp_readyWaiting _)]
        exact h.enabled_of_chain ha hc⟩
    refine Device.Lawful.setChain_same (c := ⟨.controller, i⟩) (h2.operationField hm) ?_ rfl fun _ i hi => ?_
    · have hoff : (e2.operationField l i r).dev.offOp l = e.dev.offOp l := by simp [e1, e2, -Ev.modOp_dev]
      rw [Device.lane_of_offOp hoff]
      exact hc
    · rcases hi with hi | hi <;> cases hi

/-! ## The join -/

/-- A give-back reads no lane. -/
theorem Device.modLane_giveBack (d : Device) (l : Lane) (f : LaneUnit → LaneUnit) (refs writing : List SlotId) :
    (d.giveBack refs writing).modLane l f = (d.modLane l f).giveBack refs writing := by
  have hdrop : (refs.foldl Device.dropRef d).modLane l f = refs.foldl Device.dropRef (d.modLane l f) :=
    (List.foldl_hom (fun d : Device => d.modLane l f) (g₂ := Device.dropRef) fun _ _ => rfl).symm
  have hfree (d : Device) (is : List SlotId) :
      (is.foldl Device.freeSlot d).modLane l f = is.foldl Device.freeSlot (d.modLane l f) :=
    (List.foldl_hom (fun d : Device => d.modLane l f) (g₂ := Device.freeSlot) fun _ _ => rfl).symm
  show (List.foldl Device.freeSlot _ _).modLane l f = List.foldl Device.freeSlot _ _
  rw [hfree, hdrop, ← hdrop]
  rfl

/-- The field in the chain becomes the newest member of the window, from which the members `left` leave. -/
theorem Device.Lawful.holdNewest {w left : List SlotId} (h : d.Lawful a l [] [])
    (hc : (d.lane l).chain = some ⟨.label, i⟩) (hw : (d.lane l).window ++ [i] = left ++ w) (hi : i ∈ w) :
    ((d.setSlot i { d.slot i with state := .held, refs := 1 }).modLane l fun u =>
      { u with window := w, chain := some ⟨.monitor, i⟩ }).Lawful a l [] left := by
  have h1 : (d.modLane l fun u => { u with chain := none }).Lawful a l [i] [] :=
    Device.Lawful.setChain (e := Ev.start d) (c := none) (x' := [i]) h
      (by rw [Ev.start_dev, hc]; exact (List.Perm.refl [i]).subperm)
      (fun _ => by rw [Ev.start_dev, hc]; exact List.Perm.refl [i])
      (fun _ n hn => by rcases hn with hn | hn <;> cases hn) (fun _ _ => rfl)
  have h2 := h1.holdSlot rfl
  have heq : (d.setSlot i { d.slot i with state := .held, refs := 1 }).modLane l (fun u =>
        { u with window := w, chain := some ⟨.monitor, i⟩ }) =
      ((d.modLane l fun u => { u with chain := none }).setSlot i
        { (d.modLane l fun u => { u with chain := none }).slot i with state := .held, refs := 1 }).modLane l (fun u =>
          { u with window := w, chain := some ⟨.monitor, i⟩ }) :=
    (Device.modLane_modLane (d.setSlot i { d.slot i with state := .held, refs := 1 }) l
      (fun u => { u with chain := none }) (fun u => { u with window := w, chain := some ⟨.monitor, i⟩ })).symm
  rw [heq]
  refine h2.modLane rfl rfl ?_ (fun ha => ?_) (fun ha => ?_) (fun ha hl => ?_) <;>
    simp only [Device.setSlot_lane, Device.lane_modLane_self]
  · exact (List.Perm.refl _).subperm
  · exact List.Perm.refl _
  · show (w ++ (d.lane l).op.jobs.flatMap Job.slots ++ left).Perm
      ((d.lane l).window ++ (d.lane l).op.jobs.flatMap Job.slots ++ [i])
    refine List.perm_iff_count.2 fun n => ?_
    have := congrArg (List.count n) hw
    simp only [List.count_append] at this ⊢
    omega
  · obtain ⟨h1, -, h3, h4, h5⟩ := h.lanes ha l
    refine ⟨h1, fun n hn => ?_, h3, h4, fun ho => absurd ho (h.enabled_of_chain ha hc)⟩
    rcases hn with hn | hn <;> cases hn
    exact hi

theorem Device.Lawful.joinWindow (h : d.Lawful a l [] []) (hc : (d.lane l).chain = some ⟨.label, i⟩) :
    ((d.joinWindow l i).modLane l fun u => { u with chain := some ⟨.monitor, i⟩ }).Lawful a l [] [] := by
  unfold Device.joinWindow
  dsimp only
  split
  · rename_i w0 w1 w2 w3 w4 rest hw
    rw [Device.modLane_giveBack, Device.modLane_modLane]
    refine (h.holdNewest (left := [w0]) hc hw ?_).giveBack
    have hlast := congrArg List.getLast? hw
    rw [List.getLast?_concat, List.getLast?_cons_cons] at hlast
    exact List.mem_of_getLast? hlast.symm
  · rw [Device.modLane_modLane]
    exact h.holdNewest (left := []) hc rfl (by simp)

theorem Device.Lawful.judgeLabel (h : e.dev.Lawful a l [] []) (hc : (e.dev.lane l).chain = some ⟨.label, i⟩) :
    (e.judgeLabel l i).dev.Lawful a l [] [] := by
  unfold Ev.judgeLabel
  split
  · exact h
  · extract_lets u j e1 e2
    have h1 : e1.dev.Lawful a l [] [] := Device.Lawful.beside (e := e.modDev fun d => d.modRecord i _) h.modRecord rfl rfl rfl
    have h2 : e2.dev.Lawful a l [] [] := h1.modOp (by split <;> simp)
    have hc2 : (e2.dev.lane l).chain = some ⟨.label, i⟩ := by
      simp only [e2, e1, Ev.modOp_dev, Ev.modLane_dev, Device.lane_modLane_self]
      exact hc
    exact h2.joinWindow hc2

theorem Device.Lawful.chainStep (h : e.dev.Lawful a l [] []) : (e.chainStep l).dev.Lawful a l [] [] := by
  unfold Ev.chainStep
  split
  · exact h
  · exact h.repairField ‹_›
  · exact h.judgeLabel ‹_›
  · exact h.monitorField ‹_›
  · exact h.takeField ‹_›

theorem Device.Lawful.chainStage (h : e.dev.Lawful a l [] []) (st : ChainStage) :
    (e.chainStage l st).dev.Lawful a l [] [] := by
  unfold Ev.chainStage
  split
  · split
    · exact h.chainStep
    · exact h
  · exact h

theorem Device.Lawful.finishChain (h : e.dev.Lawful a l [] []) : (e.finishChain l).dev.Lawful a l [] [] :=
  h.chainStep.chainStep.chainStep.chainStep

end
end Sys2Proof.Machine

/-! SUPPORT. The Ingest Lane's events keep the four laws: the chain that a field-start finishes, the close of a field, the
intake, the no-signal timer and the release. -/
namespace Sys2Proof.Machine
section
variable {d : Device} {e : Ev} {l k : Lane} {i : SlotId} {x x' y y' : List SlotId} {a : DeviceLaw} {q : Nat}
  {r : FieldRecord} {m : Dram} {std : Standard} {o : OpenField}

/-! ## Assembled words keep the DRAM's form -/

theorem wf_closeLine (h : m.wf = true) : (closeLine std m o).2.wf = true := by
  unfold closeLine
  dsimp only
  split
  · exact h
  · split
    · exact h
    · split
      · exact Dram.wf_writeRun _ _ h
      · exact h

theorem wf_takeWord {v : Sample} {dropout : Bool} (h : m.wf = true) : (takeWord std m o v dropout).2.wf = true := by
  unfold takeWord
  dsimp only
  split
  · exact h
  · split
    · exact h
    · split
      · exact h
      · exact Dram.wf_write _ _ h

theorem wf_padField (h : m.wf = true) : (padField std i m o).2.wf = true :=
  List.foldlRecOn (motive := fun p : List Span × Dram => p.2.wf = true) _ (padLine i) (b := (o.spans, m)) h
    fun _ hp _ _ => Dram.wf_writeRun _ _ hp

@[simp] theorem takeWord_slot {v : Sample} {dropout : Bool} : (takeWord std m o v dropout).1.slot = o.slot := by
  unfold takeWord
  dsimp only
  split
  · rfl
  · split
    · rfl
    · split
      · rfl
      · rfl

/-! ## The chain of the field before is finished -/

/-- The stage after a stage of the completion chain. -/
def ChainField.next : ChainField → Option ChainField
  | ⟨.repair, i⟩ => some ⟨.label, i⟩
  | ⟨.label, i⟩ => some ⟨.monitor, i⟩
  | ⟨.monitor, i⟩ => some ⟨.controller, i⟩
  | ⟨.controller, _⟩ => none

/-- A step of the chain moves a field that has its record on by one stage. -/
theorem Ev.chainStep_chain (h : ∀ c, (e.dev.lane l).chain = some c → (e.dev.record c.slot).isSome = true) :
    ((e.chainStep l).dev.lane l).chain = (e.dev.lane l).chain.bind ChainField.next := by
  have hset (e : Ev) (c : Option ChainField) : ((e.setChain l c).dev.lane l).chain = c := by simp [Ev.setChain]
  have hsome {i : SlotId} {st : ChainStage} (hc : (e.dev.lane l).chain = some ⟨st, i⟩) (hn : e.dev.record i = none) :
      False := by
    have := h _ hc
    rw [hn] at this
    cases this
  unfold Ev.chainStep
  split <;> rename_i hc <;> rw [hc]
  · rfl
  · unfold Ev.repairField
    split
    · exact (hsome hc ‹_›).elim
    · exact hset _ _
  · unfold Ev.judgeLabel
    split
    · exact (hsome hc ‹_›).elim
    · exact hset _ _
  · unfold Ev.monitorField
    split
    · exact (hsome hc ‹_›).elim
    · exact hset _ _
  · unfold Ev.takeField
    split
    · exact (hsome hc ‹_›).elim
    · exact hset _ _

/-- By the law of the Field Store a field in the chain has its record. -/
theorem Device.Lawful.record_of_chain (h : d.Lawful a l x y) (ha : a = .fieldStore) {c : ChainField}
    (hc : (d.lane k).chain = some c) : (d.record c.slot).isSome = true := by
  refine (h.slots ha c.slot).record fun hf => ?_
  have hwriting (hs : c.slot ∈ (d.lane k).chainSlot) : False := by
    have := ((h.list (.inr ha)).owned k c.slot
      (List.mem_append_left _ (List.mem_append_right _ hs))).1
    rw [hf] at this
    cases this
  have hheld (hs : c.slot ∈ (d.lane k).window) : False := by
    have := (h.referenced ha (LaneUnit.mem_references_of_window hs)).1
    rw [hf] at this
    cases this
  obtain ⟨st, i⟩ := c
  cases st
  · exact hwriting (by simp [LaneUnit.chainSlot, hc])
  · exact hwriting (by simp [LaneUnit.chainSlot, hc])
  · exact hheld ((h.lanes ha k).joined i (.inl hc))
  · exact hheld ((h.lanes ha k).joined i (.inr hc))

/-- By the law of the Field Store four steps finish the chain. -/
theorem Device.Lawful.finishChain_chain (h : e.dev.Lawful a l [] []) (ha : a = .fieldStore) :
    ((e.finishChain l).dev.lane l).chain = none := by
  have hstep {e : Ev} (h : e.dev.Lawful a l [] []) :
      ((e.chainStep l).dev.lane l).chain = (e.dev.lane l).chain.bind ChainField.next :=
    Ev.chainStep_chain fun c hc => h.record_of_chain ha hc
  unfold Ev.finishChain
  rw [hstep h.chainStep.chainStep.chainStep, hstep h.chainStep.chainStep, hstep h.chainStep, hstep h]
  obtain _ | ⟨st, i⟩ := (e.dev.lane l).chain
  · rfl
  · cases st <;> rfl

/-! ## Changes of the Ingest Lane -/

/-- What the Field Store's law asks of an Ingest Lane beside its slot. -/
def IngestLane.sound (g : IngestLane) : Prop :=
  g.state ≠ .off ∧ ∀ o i, g.openField = some o → o.slot = some i → g.state = .locked

/-- The WRITING slot of an Ingest Lane's open field. -/
def IngestLane.slot (g : IngestLane) : List SlotId := ({ LaneUnit.powerOn with ingest := g } : LaneUnit).openSlot

theorem LaneUnit.openSlot_eq (u : LaneUnit) : u.openSlot = u.ingest.slot := rfl

theorem IngestLane.sound_of_closed {g : IngestLane} (hs : g.state ≠ .off) (ho : g.openField = none) : g.sound :=
  ⟨hs, fun _ _ h => by rw [ho] at h; cases h⟩

theorem Device.Lawful.modIngest {f : IngestLane → IngestLane} (h : e.dev.Lawful a l x y)
    (hw : ((f (e.dev.lane l).ingest).slot ++ x').Subperm ((e.dev.lane l).ingest.slot ++ x))
    (hw' : a = .fieldStore → ((f (e.dev.lane l).ingest).slot ++ x').Perm ((e.dev.lane l).ingest.slot ++ x))
    (hs : a = .fieldStore → (f (e.dev.lane l).ingest).sound) : (e.modIngest l f).dev.Lawful a l x' y := by
  have hcomm (o c z : List SlotId) : (o ++ c ++ z).Perm (c ++ (o ++ z)) := by
    rw [← List.append_assoc]
    exact List.perm_append_comm.append_right z
  refine Device.Lawful.modLane (f := fun u => { u with ingest := f u.ingest }) rfl rfl ?_ (fun ha => ?_) (y' := y)
    (fun _ => List.Perm.refl _) (fun ha hl => ?_) h
  · exact (hcomm _ _ _).subperm.trans (((List.subperm_append_left _).2 hw).trans (hcomm _ _ _).symm.subperm)
  · exact (hcomm _ _ _).trans (((hw' ha).append_left _).trans (hcomm _ _ _).symm)
  · obtain ⟨-, h2, h3, h4, -⟩ := hl
    exact ⟨(hs ha).2, h2, h3, h4, fun ho => absurd ho (hs ha).1⟩

/-- A change of the Ingest Lane that leaves its open field's slot. -/
theorem Device.Lawful.modIngest_same {f : IngestLane → IngestLane} (h : e.dev.Lawful a l x y)
    (hw : (f (e.dev.lane l).ingest).slot = (e.dev.lane l).ingest.slot)
    (hs : a = .fieldStore → (f (e.dev.lane l).ingest).sound) : (e.modIngest l f).dev.Lawful a l x y :=
  h.modIngest (by rw [hw]) (fun _ => by rw [hw]) hs

/-- Slots that the free list's law alone is asked for may be lost. -/
theorem Device.Lawful.lose (h : d.Lawful a l x y) (hx : a = .fieldStore → x = []) : d.Lawful a l [] y := by
  have hid : d.modLane l id = d := Device.modLane_self rfl
  rw [← hid]
  refine h.modLane rfl rfl ?_ (fun ha => ?_) (fun _ => List.Perm.refl _) (fun _ => id)
  · rw [List.append_nil]; exact (List.sublist_append_left _ _).subperm
  · rw [hx ha]; exact List.Perm.refl _

/-! ## The close of a field -/

/-- The lane is enabled and has no open field, where the law of the Field Store asks for it. -/
def Device.closed (a : DeviceLaw) (l : Lane) (d : Device) : Prop :=
  a = .fieldStore → (d.lane l).ingest.state ≠ .off ∧ (d.lane l).ingest.openField = none

section
variable (h : e.dev.Lawful a l x y)
include h

theorem Device.Lawful.setLaneState {st : LaneState} (hc : e.dev.closed a l) (hs : st ≠ .off) (q : Nat) :
    (e.setLaneState l st q).dev.Lawful a l x y :=
  h.modIngest_same (f := fun g => { g with state := st, goodRun := 0, badRun := 0 }) rfl
    fun ha => IngestLane.sound_of_closed hs (hc ha).2

theorem Device.Lawful.lockedClose (hc : e.dev.closed a l) (w : Bool) (kept : Option Nat) (q : Nat) :
    (e.lockedClose l w kept q).dev.Lawful a l x y := by
  unfold Ev.lockedClose
  split
  · exact h.modIngest_same rfl fun ha => IngestLane.sound_of_closed (hc ha).1 (hc ha).2
  · split
    · exact (h.setLaneState hc (by decide) q).lockLoss _ _
    · exact h.modIngest_same rfl fun ha => IngestLane.sound_of_closed (hc ha).1 (hc ha).2

theorem Device.Lawful.seekingClose (hc : e.dev.closed a l) (w : Bool) (q : Nat) :
    (e.seekingClose l w q).dev.Lawful a l x y := by
  unfold Ev.seekingClose
  dsimp only
  split
  · exact h.modIngest_same rfl fun ha => IngestLane.sound_of_closed (hc ha).1 (hc ha).2
  · split
    · exact (h.setLaneState hc (by decide) q).acquired
    · exact h.modIngest_same rfl fun ha => IngestLane.sound_of_closed (hc ha).1 (hc ha).2

end

theorem Device.closed_of_ingest {d' : Device} (hi : (d'.lane l).ingest = (d.lane l).ingest) (hc : d.closed a l) :
    d'.closed a l := fun ha => by rw [hi]; exact hc ha

theorem Device.Lawful.keepField (h : e.dev.Lawful a l [i] y) (hc : e.dev.closed a l)
    (hn : a = .fieldStore → (e.dev.lane l).chain = none) (o : OpenField) :
    (e.keepField l i o).dev.Lawful a l [] y := by
  unfold Ev.keepField
  extract_lets last disc e1
  have h1 : e1.dev.Lawful a l [i] y := h.modRecord
  have h2 : (e1.modIngest l fun g => { g with lastStored := some o.sequence }).dev.Lawful a l [i] y :=
    h1.modIngest_same rfl fun ha => IngestLane.sound_of_closed (hc ha).1 (hc ha).2
  have hlane : ((e1.modIngest l fun g => { g with lastStored := some o.sequence }).dev.lane l).chain =
      (e.dev.lane l).chain := by simp [Ev.modIngest, e1]
  refine h2.setChain ?_ (fun ha => ?_) (fun _ n hi => ?_) fun ha ho => ?_
  · exact (List.sublist_append_right _ [i]).subperm
  · rw [hlane, hn ha]; exact List.Perm.refl [i]
  · rcases hi with hi | hi <;> cases hi
  · rw [Ev.modIngest_ingest] at ho
    exact absurd ho (hc ha).1

/-- A field closed leaves what it holds in the event's hand, or keeps it. -/
theorem Device.Lawful.closeLocked {prev : Option Parity} {wrap : Bool} (h : e.dev.Lawful a l o.slot.toList y)
    (hc : e.dev.closed a l) (hn : a = .fieldStore → (e.dev.lane l).chain = none) (q : Nat) :
    (e.closeLocked l o prev wrap q).ev.dev.Lawful a l (e.closeLocked l o prev wrap q).freed y := by
  unfold Ev.closeLocked
  extract_lets std
  split
  · rename_i hs
    rw [hs] at h
    exact (h.discontinuity _).lockedClose (Device.closed_of_ingest Ev.discontinuity_ingest hc) _ _ _
  · rename_i i hs
    rw [hs] at h
    extract_lets p e1
    have h1 : e1.dev.Lawful a l [i] y := h.setDram fun _ hm => wf_padField hm
    split
    · exact (h1.discontinuity _).lockedClose (Device.closed_of_ingest Ev.discontinuity_ingest hc) _ _ _
    · split
      · exact h1.lockedClose hc _ _ _
      · refine (h1.keepField hc hn p.1).lockedClose (fun ha => ?_) _ _ _
        rw [Ev.keepField_ingest]
        exact hc ha

theorem Device.Lawful.closeOpenField {wrap : Bool} (h : e.dev.Lawful a l [] y)
    (hn : a = .fieldStore → (e.dev.lane l).chain = none) (hon : (e.dev.lane l).ingest.state ≠ .off) (q : Nat) :
    (e.closeOpenField l wrap q).ev.dev.Lawful a l (e.closeOpenField l wrap q).freed y := by
  unfold Ev.closeOpenField
  extract_lets u prev
  split
  · exact h
  · rename_i f0 hf
    extract_lets p f e1
    have hslot : f.slot = f0.slot := closeLine_slot
    have hopen : u.ingest.slot = f0.slot.toList := by
      show u.openSlot = _
      simp [LaneUnit.openSlot, hf]
    have h1 : e1.dev.Lawful a l f.slot.toList y := by
      refine Device.Lawful.modIngest (e := e.setDram p.2) (x := []) (h.setDram fun _ hm => wf_closeLine hm) ?_
        (fun _ => ?_) fun _ => IngestLane.sound_of_closed hon rfl
      · rw [hslot, ← hopen, List.append_nil]; exact List.Subperm.refl _
      · rw [hslot, ← hopen, List.append_nil]; exact List.Perm.refl _
    have hc : e1.dev.closed a l := fun _ => by
      simp only [e1, Ev.modIngest_ingest]
      exact ⟨hon, trivial⟩
    split
    · exact h1.closeLocked hc (fun ha => by simpa [e1, Ev.modIngest] using hn ha) q
    · rename_i hs
      refine (h1.lose fun ha => ?_).seekingClose hc _ q
      rw [hslot]
      cases hi : f0.slot with
      | none => rfl
      | some i =>
        have := (h.lanes ha l).field f0 i hf hi
        rw [hs] at this
        cases this
    · exact h1

/-! ## The intake -/

theorem Device.Lawful.takeSlot {rest : List SlotId} {p : Parity} {b : Bool} (h : d.Lawful a l [] y)
    (hf : d.freeList = i :: rest) (hr : d.hasRoom l = true) (ho : (d.lane l).ingest.openField = some o)
    (hn : o.slot = none) (hs : a = .fieldStore → (d.lane l).ingest.state = .locked) :
    (d.takeSlot l i q p b).Lawful a l [] y := by
  have hroom : d.slotsInUse l < (d.lane l).quota := by
    simp only [Device.hasRoom, Bool.and_eq_true, decide_eq_true_eq] at hr
    exact hr.1
  unfold Device.takeSlot
  extract_lets d0 d1
  have h1 : d1.Lawful a l [i] y :=
    h.takeHead (seq := q) (parity := p) (held := b) (by simp only [d1, d0, hf, List.tail_cons]) hf fun _ => hroom
  have hwrites : (d.lane l).writes ++ [i] = (d.lane l).chainSlot ++ [i] := by
    simp [LaneUnit.writes, LaneUnit.openSlot, ho, hn]
  have hwrites' : ({ d.lane l with
      overrun := false
      ingest := { (d.lane l).ingest with
        openField := (d.lane l).ingest.openField.map fun f => { f with slot := some i } } } : LaneUnit).writes ++ [] =
      i :: (d.lane l).chainSlot := by
    simp [LaneUnit.writes, LaneUnit.openSlot, LaneUnit.chainSlot, ho]
  have hperm : (i :: (d.lane l).chainSlot).Perm ((d.lane l).chainSlot ++ [i]) :=
    (List.perm_append_singleton i _).symm
  refine Device.Lawful.modLane rfl rfl ?_ (fun _ => ?_) (fun _ => List.Perm.refl _) (fun ha hl => ?_) h1
  · show (_ : List SlotId).Subperm ((d.lane l).writes ++ [i])
    rw [hwrites]
    exact (hwrites' ▸ hperm).subperm
  · show (_ : List SlotId).Perm ((d.lane l).writes ++ [i])
    rw [hwrites]
    exact hwrites' ▸ hperm
  · obtain ⟨-, h2, h3, h4, -⟩ := hl
    refine ⟨fun _ _ _ _ => hs ha, h2, h3, h4, fun hoff => ?_⟩
    have : (d.lane l).ingest.state = .off := hoff
    rw [hs ha] at this
    cases this

theorem Device.Lawful.intake {p : Parity} {b : Bool} (h : e.dev.Lawful a l [] y)
    (ho : (e.dev.lane l).ingest.openField = some o) (hn : o.slot = none)
    (hs : (e.dev.lane l).ingest.state = .locked) : (e.intake l q p b).dev.Lawful a l [] y := by
  unfold Ev.intake
  split
  · exact h.takeSlot ‹_› ‹_› ho hn fun _ => hs
  · exact h.dropField q

/-! ## The field-start -/

theorem Device.Lawful.openNewField {p : Parity} {b : Bool} (h : e.dev.Lawful a l [] y) (hc : e.dev.closed a l) :
    (e.openNewField l q p b).dev.Lawful a l [] y := by
  unfold Ev.openNewField
  extract_lets e1 e2
  have h1 : e1.dev.Lawful a l [] y := by
    refine h.modIngest ?_ (fun ha => ?_) fun ha => ⟨(hc ha).1, fun o i ho hi => ?_⟩
    · exact (List.nil_sublist _).subperm
    · have hnone := (hc ha).2
      have hslot : (e.dev.lane l).ingest.slot = [] := by
        rw [← LaneUnit.openSlot_eq, LaneUnit.openSlot, hnone]
      rw [hslot]
      exact List.Perm.refl _
    · cases ho
      cases hi
  have hbeside : e2.dev.beside = e1.dev.beside := Ev.beside_reportFieldStart
  have hingest : (e2.dev.lane l).ingest = (e1.dev.lane l).ingest := Device.ingest_of_beside hbeside l
  split
  · refine h1.reportFieldStart.intake (o := OpenField.start q p b) ?_ rfl ‹_›
    rw [hingest]
    simp only [e1, Ev.modIngest_ingest]
  · exact h1.reportFieldStart

theorem Device.Lawful.resetLaneBlocks (h : e.dev.Lawful a l x y) (q : Nat) :
    (e.resetLaneBlocks l q).dev.Lawful a l x y :=
  Device.Lawful.setMonitor (e := e.modLane l fun u => { u with decoder := LabelDecoder.reset }) (h.beside rfl rfl rfl) _ _

/-- A lane is enabled: where the law of the Field Store asks for it, it has no open field. -/
theorem Device.Lawful.enableLane (h : e.dev.Lawful a l x y)
    (ho : a = .fieldStore → (e.dev.lane l).ingest.openField = none) (q : Nat) : (e.enableLane l q).dev.Lawful a l x y := by
  refine Device.Lawful.resetLaneBlocks (h.modIngest ?_ (fun ha => ?_) fun _ =>
    IngestLane.sound_of_closed (by decide) rfl) q
  · exact (List.sublist_append_right _ x).subperm
  · have hslot : (e.dev.lane l).ingest.slot = [] := by
      rw [← LaneUnit.openSlot_eq, LaneUnit.openSlot, ho ha]
    rw [hslot]
    exact List.Perm.refl _

theorem Ev.enableLane_ingest : ((e.enableLane l q).dev.lane l).ingest = IngestLane.enabled := by
  simp [Ev.enableLane, Ev.resetLaneBlocks, Ev.modIngest, Device.ingest_of_beside (Ev.beside_setMonitor _ _) l]

theorem Device.Lawful.reenterLane (h : e.dev.Lawful a l x []) (hc : e.dev.closed a l)
    (hn : a = .fieldStore → ∀ i, (e.dev.lane l).chain ≠ some ⟨.monitor, i⟩ ∧ (e.dev.lane l).chain ≠ some ⟨.controller, i⟩) :
    (e.reenterLane l x).dev.Lawful a l [] [] ∧ (e.reenterLane l x).dev.closed a l := by
  unfold Ev.reenterLane
  extract_lets u e0 e1
  have hwin : (e.modLane l fun u => { u with window := [], overrun := false }).dev.Lawful a l x u.window := by
    refine Device.Lawful.modLane (f := fun u => { u with window := [], overrun := false }) rfl rfl
      (List.Perm.refl ((e.dev.lane l).writes ++ x)).subperm (fun _ => List.Perm.refl ((e.dev.lane l).writes ++ x))
      (fun ha => ?_) (fun ha hl => ?_) h
    · show (([] : List SlotId) ++ (e.dev.lane l).op.jobs.flatMap Job.slots ++ (e.dev.lane l).window).Perm
        ((e.dev.lane l).window ++ (e.dev.lane l).op.jobs.flatMap Job.slots ++ [])
      simpa using List.perm_append_comm
    · obtain ⟨h1, -, h3, h4, -⟩ := hl
      refine ⟨h1, fun i hi => ?_, h3, h4, fun ho => absurd ho (hc ha).1⟩
      rcases hi with hi | hi
      · exact absurd hi (hn ha i).1
      · exact absurd hi (hn ha i).2
  have h0 : e0.dev.Lawful a l [] [] := hwin.giveBack
  have h1 : e1.dev.Lawful a l [] [] := h0.enableLane (fun ha => by simpa [e0] using (hc ha).2) 1
  have hc1 : e1.dev.closed a l := fun _ => by
    rw [Ev.enableLane_ingest]
    exact ⟨by decide, rfl⟩
  split
  · exact ⟨h1.lockLoss _ _, Device.closed_of_ingest Ev.lockLoss_ingest hc1⟩
  · exact ⟨h1, hc1⟩

end
end Sys2Proof.Machine

/-! SUPPORT. The field-start, the decoder's other signals, the no-signal timer and the release keep the four laws. -/
namespace Sys2Proof.Machine
section
variable {d : Device} {e : Ev} {l k : Lane} {i : SlotId} {x x' y y' : List SlotId} {a : DeviceLaw} {q : Nat}
  {r : FieldRecord} {m : Dram} {std : Standard} {o : OpenField}

theorem Ev.modLane_giveBack (f : LaneUnit → LaneUnit) (refs writing : List SlotId) :
    ((e.modDev fun d => d.giveBack refs writing).modLane l f).dev = (e.modLane l f).dev.giveBack refs writing :=
  Device.modLane_giveBack e.dev l f refs writing

theorem Ev.setLaneState_closed {st : LaneState} (hc : e.dev.closed a l) (hs : st ≠ .off) :
    (e.setLaneState l st q).dev.closed a l := fun ha => by
  rw [Ev.setLaneState_ingest]
  exact ⟨hs, (hc ha).2⟩

theorem Ev.closeLocked_closed {prev : Option Parity} {wrap : Bool} (hc : e.dev.closed a l) :
    (e.closeLocked l o prev wrap q).ev.dev.closed a l := by
  have hlocked {e : Ev} {w : Bool} {kept : Option Nat} (hc : e.dev.closed a l) :
      (e.lockedClose l w kept q).dev.closed a l := fun ha => by
    obtain ⟨h1, h2⟩ := hc ha
    rw [Ev.lockedClose_ingest, IngestLane.afterLocked]
    split
    · exact ⟨h1, h2⟩
    · split
      · exact ⟨nofun, h2⟩
      · exact ⟨h1, h2⟩
  unfold Ev.closeLocked
  extract_lets std
  split
  · exact hlocked (Device.closed_of_ingest Ev.discontinuity_ingest hc)
  · extract_lets p e1
    split
    · exact hlocked (Device.closed_of_ingest Ev.discontinuity_ingest hc)
    · split
      · exact hlocked hc
      · refine hlocked fun ha => ?_
        rw [Ev.keepField_ingest]
        exact hc ha

theorem Ev.seekingClose_closed {w : Bool} (hc : e.dev.closed a l) : (e.seekingClose l w q).dev.closed a l := fun ha => by
  obtain ⟨h1, h2⟩ := hc ha
  rw [Ev.seekingClose_ingest, IngestLane.afterSeeking]
  split
  · exact ⟨h1, h2⟩
  · split
    · exact ⟨nofun, h2⟩
    · exact ⟨h1, h2⟩

theorem Ev.closeOpenField_closed {wrap : Bool} (hon : (e.dev.lane l).ingest.state ≠ .off) :
    (e.closeOpenField l wrap q).ev.dev.closed a l := by
  unfold Ev.closeOpenField
  extract_lets u prev
  split
  · exact fun _ => ⟨hon, ‹_›⟩
  · extract_lets p f e1
    have hc : e1.dev.closed a l := fun _ => by
      simp only [e1, Ev.modIngest_ingest]
      exact ⟨hon, trivial⟩
    split
    · exact Ev.closeLocked_closed hc
    · exact Ev.seekingClose_closed hc
    · exact hc

theorem Ev.lockedClose_chain {w : Bool} {kept : Option Nat} :
    ((e.lockedClose l w kept q).dev.lane l).chain = (e.dev.lane l).chain := by
  unfold Ev.lockedClose
  split
  · simp [Ev.modIngest]
  · split
    · rw [Device.chain_of_beside (Ev.beside_lockLoss _ _)]
      simp [Ev.setLaneState, Ev.modIngest]
    · simp [Ev.modIngest]

theorem Ev.seekingClose_chain {w : Bool} : ((e.seekingClose l w q).dev.lane l).chain = (e.dev.lane l).chain := by
  unfold Ev.seekingClose
  dsimp only
  split
  · simp [Ev.modIngest]
  · split
    · rw [Device.chain_of_beside Ev.beside_acquired]
      simp [Ev.setLaneState, Ev.modIngest]
    · simp [Ev.modIngest]

theorem Ev.discontinuity_chain : ((e.discontinuity l q).dev.lane l).chain = (e.dev.lane l).chain :=
  Device.chain_of_beside (Ev.beside_discontinuity _) l

/-- A close leaves the chain as it was, or begins it anew. -/
theorem Ev.closeOpenField_chain {wrap : Bool} :
    ((e.closeOpenField l wrap q).ev.dev.lane l).chain = (e.dev.lane l).chain ∨
      ∃ i, ((e.closeOpenField l wrap q).ev.dev.lane l).chain = some ⟨.repair, i⟩ := by
  have hlocked {e : Ev} {prev : Option Parity} {o : OpenField} :
      ((e.closeLocked l o prev wrap q).ev.dev.lane l).chain = (e.dev.lane l).chain ∨
        ∃ i, ((e.closeLocked l o prev wrap q).ev.dev.lane l).chain = some ⟨.repair, i⟩ := by
    unfold Ev.closeLocked
    extract_lets std
    split
    · exact .inl (Ev.lockedClose_chain.trans Ev.discontinuity_chain)
    · rename_i i _
      extract_lets p e1
      split
      · exact .inl (Ev.lockedClose_chain.trans Ev.discontinuity_chain)
      · split
        · exact .inl Ev.lockedClose_chain
        · exact .inr ⟨i, Ev.lockedClose_chain.trans (by simp [Ev.keepField, Ev.setChain])⟩
  unfold Ev.closeOpenField
  extract_lets u prev
  split
  · exact .inl rfl
  · extract_lets p f e1
    have hchain : (e1.dev.lane l).chain = (e.dev.lane l).chain := by simp [e1, Ev.modIngest]
    split
    · rw [← hchain]; exact hlocked
    · exact .inl (Ev.seekingClose_chain.trans hchain)
    · exact .inl hchain

theorem Device.Lawful.fieldStartEnabled {p : Parity} {b : Bool} (h : e.dev.Lawful a l [] [])
    (hon : (e.dev.lane l).ingest.state ≠ .off) : (e.fieldStartEnabled l p b).dev.Lawful a l [] [] := by
  unfold Ev.fieldStartEnabled
  extract_lets e0 top seq c e2 e1
  have h0 : e0.dev.Lawful a l [] [] := h.finishChain
  have hn (ha : a = .fieldStore) : (e0.dev.lane l).chain = none := h.finishChain_chain ha
  have hon0 : (e0.dev.lane l).ingest.state ≠ .off := by rw [Ev.finishChain_ingest]; exact hon
  have h1 : c.ev.dev.Lawful a l c.freed [] := h0.closeOpenField hn hon0 seq
  have hc : c.ev.dev.closed a l := Ev.closeOpenField_closed hon0
  have he1 : e1.dev.Lawful a l [] [] ∧ e1.dev.closed a l := by
    simp only [e1]
    split
    · refine h1.reenterLane hc fun ha n => ?_
      rcases Ev.closeOpenField_chain (e := e0) (l := l) (q := seq) (wrap := top) with hch | ⟨n', hch⟩
      · rw [hch, hn ha]; exact ⟨nofun, nofun⟩
      · rw [hch]; exact ⟨nofun, nofun⟩
    · have h2 : (c.ev.modDev fun d => d.giveBack [] c.freed).dev.Lawful a l [] [] := h1.giveBack
      have hc2 : (c.ev.modDev fun d => d.giveBack [] c.freed).dev.closed a l :=
        Device.closed_of_ingest (by simp) hc
      split
      · exact ⟨h2.setLaneState hc2 (by decide) seq, Ev.setLaneState_closed hc2 (by decide)⟩
      · exact ⟨h2, hc2⟩
  exact he1.1.openNewField he1.2

theorem Device.Lawful.fieldStart {p : Parity} {b : Bool} (h : e.dev.Lawful a l [] []) :
    (e.fieldStart l p b).dev.Lawful a l [] [] := by
  unfold Ev.fieldStart
  split
  · exact h.watch _
  · exact h.fieldStartEnabled ‹_›

/-! ## Lines, words, labels -/

theorem Device.Lawful.withOpenField {f : Standard → Dram → OpenField → OpenField × Dram} (h : e.dev.Lawful a l x y)
    (hon : (e.dev.lane l).ingest.state ≠ .off) (hf : ∀ std m o, (f std m o).1.slot = o.slot)
    (hm : ∀ std m o, m.wf = true → (f std m o).2.wf = true) : (e.withOpenField l f).dev.Lawful a l x y := by
  unfold Ev.withOpenField
  extract_lets u
  split
  · exact h
  · rename_i o ho
    extract_lets p
    have hslot : p.1.slot = o.slot := hf _ _ _
    have h1 : (e.setDram p.2).dev.Lawful a l x y := h.setDram fun _ hw => hm _ _ _ hw
    refine h1.modIngest_same ?_ fun ha => ⟨hon, fun o' i ho' hi => ?_⟩
    · show p.1.slot.toList = u.openSlot
      simp [LaneUnit.openSlot, ho, hslot]
    · cases ho'
      exact (h.lanes ha l).field o i ho (hslot ▸ hi)

theorem Device.Lawful.lineStart (h : e.dev.Lawful a l x y) : (e.lineStart l).dev.Lawful a l x y := by
  unfold Ev.lineStart
  split
  · exact h
  · exact h.withOpenField ‹_› (fun _ _ _ => closeLine_slot) fun _ _ _ => wf_closeLine

theorem Device.Lawful.sampleWord {v : Sample} {b c : Bool} (h : e.dev.Lawful a l x y) :
    (e.sampleWord l v b c).dev.Lawful a l x y := by
  unfold Ev.sampleWord
  split
  · exact h
  · split
    · exact h.watch _
    · exact h.withOpenField ‹_› (fun _ _ _ => takeWord_slot) fun _ _ _ => wf_takeWord

theorem Device.Lawful.labelWord {w : LabelWord} (h : e.dev.Lawful a l x y) : (e.labelWord l w).dev.Lawful a l x y := by
  unfold Ev.labelWord
  split
  · exact h
  · exact h.withOpenField ‹_› (fun _ _ _ => rfl) fun _ _ _ => id

/-! ## The no-signal timer -/

theorem Device.Lawful.loseSignal (h : e.dev.Lawful a l [] []) (hon : (e.dev.lane l).ingest.state ≠ .off) :
    (e.loseSignal l).dev.Lawful a l [] [] := by
  unfold Ev.loseSignal
  extract_lets u e1 e2 e3
  have hclose : (e.modIngest l fun g => { g with openField := none, prevParity := none, timer := false }).dev.Lawful a l
      u.openSlot [] := by
    refine h.modIngest ?_ (fun _ => ?_) fun _ => IngestLane.sound_of_closed hon rfl
    · rw [List.append_nil]; exact List.Subperm.refl _
    · rw [List.append_nil]; exact List.Perm.refl _
  have h1 : (e1.modIngest l fun g => { g with openField := none, prevParity := none, timer := false }).dev.Lawful a l
      [] [] := by
    have heq : (e1.modIngest l fun g => { g with openField := none, prevParity := none, timer := false }).dev =
        (e.modIngest l fun g => { g with openField := none, prevParity := none, timer := false }).dev.giveBack []
          u.openSlot := Ev.modLane_giveBack _ _ _
    rw [heq]
    exact hclose.giveBack
  have h2 : e2.dev.Lawful a l [] [] := h1.setLaneState (fun _ => by
    rw [Ev.modIngest_ingest]
    simp only [e1, Ev.modDev_dev, Device.giveBack_lane]
    exact ⟨hon, trivial⟩) (by decide) _
  have h3 : e3.dev.Lawful a l [] [] := h2.modOp (Controller.holds_observe _ _)
  split
  · exact h3.lockLoss _ _
  · exact h3

theorem Device.Lawful.timerExpiry (h : e.dev.Lawful a l [] []) : (e.timerExpiry l).dev.Lawful a l [] [] := by
  unfold Ev.timerExpiry
  extract_lets g
  split
  · rename_i hg
    refine h.loseSignal fun ho => ?_
    have : g.state = .off := ho
    simp [this] at hg
  · exact h

/-! ## Jobs discarded, and the release -/

theorem Device.Lawful.returnBuffer {j : Job} (h : d.Lawful a l x y) (hj : j.lane = l) :
    (d.returnBuffer j).Lawful a l x y := by
  subst hj
  unfold Device.returnBuffer
  split
  · rename_i b _
    exact Device.Lawful.setDram (d := d.modLane j.lane fun u => { u with channel := u.channel.setBuffer b .free })
      (fun _ hw => Dram.wf_forgetBuffer _ _ hw) (h.modLane_beside rfl rfl rfl)
  · exact h

/-- The references that a cut of lane `l`'s running job gives back. -/
def Device.cutRefs (d : Device) (l : Lane) : List SlotId := ((d.runningOf l).map Job.slots).getD []

theorem Device.Lawful.cutRunning (h : d.Lawful a l x y) : (d.cutRunning l).Lawful a l x (d.cutRefs l ++ y) := by
  unfold Device.cutRunning Device.cutRefs
  split
  · rename_i j hj
    obtain ⟨hrun, hjl⟩ := Device.runningOf_lane hj
    rw [hj]
    have hengine : (d.returnBuffer j).engine = d.engine := by
      unfold Device.returnBuffer
      split <;> rfl
    exact (h.returnBuffer hjl).endJob (by rw [hengine]) (hengine ▸ hrun) hjl
  · rename_i hj
    rw [hj]
    exact h

theorem Device.cutRunning_lane_holder (d : Device) (l k : Lane) :
    ((d.cutRunning l).lane k).holder = (d.lane k).holder := by
  unfold Device.cutRunning
  split
  · rename_i j _
    show ((d.returnBuffer j).lane k).holder = _
    unfold Device.returnBuffer
    split
    · rename_i b _
      show ((d.modLane j.lane fun u => { u with channel := u.channel.setBuffer b .free }).lane k).holder = _
      rw [Device.lane_modLane]
      split
      · subst k; rfl
      · rfl
    · rfl
  · rfl

/-- After the cut no job of the lane runs. -/
theorem Device.cutRunning_running (d : Device) (l : Lane) (j : Job) (hj : (d.cutRunning l).engine.running = some j) :
    j.lane ≠ l := by
  unfold Device.cutRunning Device.runningOf at hj
  split at hj
  · cases hj
  · rename_i hn
    rintro rfl
    rw [hj] at hn
    simp at hn

/-- STOP and RELEASE up to what they give back: the pending jobs are gone, and the running job is cut. -/
def Device.cutJobs (d : Device) (l : Lane) : Device :=
  (d.cutRunning l).modLane l fun u => { u with op := { u.op with jobs := [] } }

theorem Device.discardJobs_eq (d : Device) (l : Lane) (refs writing : List SlotId) :
    d.discardJobs l refs writing = (d.cutJobs l).giveBack (d.jobRefs l ++ refs) writing := rfl

theorem LaneUnit.LaneLaw.withoutJobs {u : LaneUnit} {run : Option Job} (h : u.LaneLaw l run) :
    ({ u with op := { u.op with jobs := [] } } : LaneUnit).LaneLaw l run := by
  obtain ⟨h1, h2, -, -, h5⟩ := h
  refine ⟨h1, h2, fun j hj => (List.not_mem_nil hj).elim, Nat.zero_le 1, fun ho => ?_⟩
  obtain ⟨g1, g2, g3, -, g5⟩ := h5 ho
  exact ⟨g1, g2, g3, rfl, g5⟩

theorem Device.Lawful.cutJobs (h : d.Lawful a l x []) : (d.cutJobs l).Lawful a l x (d.jobRefs l) := by
  have hholder := d.cutRunning_lane_holder l l
  have hjobs : ((d.cutRunning l).lane l).op.jobs = (d.lane l).op.jobs := congrArg (fun u => u.op.jobs) hholder
  refine Device.Lawful.modLane (f := fun u => { u with op := { u.op with jobs := [] } }) rfl rfl (List.Subperm.refl _)
    (fun _ => List.Perm.refl _) (fun ha => ?_) (fun _ => LaneUnit.LaneLaw.withoutJobs) h.cutRunning
  show (((d.cutRunning l).lane l).window ++ [] ++ d.jobRefs l).Perm
    (((d.cutRunning l).lane l).window ++ ((d.cutRunning l).lane l).op.jobs.flatMap Job.slots ++ (d.cutRefs l ++ []))
  rw [hjobs, Device.jobRefs, Device.cutRefs, List.append_nil, List.append_nil, List.append_assoc]

theorem Device.Lawful.discardJobs (h : d.Lawful a l [] []) : (d.discardJobs l [] []).Lawful a l [] [] := by
  rw [Device.discardJobs_eq, List.append_nil]
  exact h.cutJobs.giveBack

/-- A lane that gives back all that it holds. -/
def LaneUnit.released (u : LaneUnit) : LaneUnit :=
  { u with window := [], overrun := false, chain := none, ingest := IngestLane.reset }

theorem LaneUnit.released_laneLaw {u : LaneUnit} {run : Option Job} (hj : u.op.jobs = [])
    (hr : ∀ j, run = some j → j.lane ≠ l) : u.released.LaneLaw l run := by
  refine ⟨fun _ _ ho => (by cases ho), fun _ hc => (by rcases hc with hc | hc <;> cases hc), fun j hm => ?_, ?_, fun _ => ?_⟩
  · rw [show u.released.op.jobs = [] from hj] at hm
    exact (List.not_mem_nil hm).elim
  · rw [show u.released.op.jobs = [] from hj]
    exact Nat.zero_le 1
  · exact ⟨rfl, rfl, rfl, hj, hr⟩

/-- What a lane gives back as it is released: its references and its WRITING slots. -/
theorem Device.Lawful.release (h : d.Lawful a l [] []) :
    ((d.discardJobs l (d.lane l).window (d.lane l).writes).modLane l LaneUnit.released).Lawful a l [] [] := by
  rw [Device.discardJobs_eq, Device.modLane_giveBack]
  have hholder : ((d.cutJobs l).lane l).holder =
      ({ d.lane l with op := { (d.lane l).op with jobs := [] } } : LaneUnit).holder := by
    have hcut := d.cutRunning_lane_holder l l
    simp only [Device.cutJobs, Device.lane_modLane_self]
    exact congrArg (fun u : LaneUnit => { u with op := Controller.reset }) hcut
  have hwrites : ((d.cutJobs l).lane l).writes = (d.lane l).writes := (LaneUnit.writes_of_holder hholder).trans rfl
  have hrefs : ((d.cutJobs l).lane l).references = (d.lane l).window ++ [] := LaneUnit.references_of_holder hholder
  have hjobs : ((d.cutJobs l).lane l).op.jobs = [] := congrArg (fun u : LaneUnit => u.op.jobs) hholder
  refine Device.Lawful.giveBack (Device.Lawful.modLane (x := []) (y := d.jobRefs l) rfl rfl ?_ (fun _ => ?_) (fun _ => ?_)
    (fun _ _ => LaneUnit.released_laneLaw hjobs (d.cutRunning_running l)) h.cutJobs)
  · show ((d.lane l).writes).Subperm (((d.cutJobs l).lane l).writes ++ [])
    rw [hwrites, List.append_nil]
  · show ((d.lane l).writes).Perm (((d.cutJobs l).lane l).writes ++ [])
    rw [hwrites, List.append_nil]
  · have hnone : ((d.cutJobs l).lane l).released.references = [] := by
      simp [LaneUnit.references, LaneUnit.released, hjobs]
    rw [hnone, hrefs, List.append_nil, List.nil_append]
    exact List.perm_append_comm

theorem Device.Lawful.releaseLane (h : e.dev.Lawful a l [] []) : (e.releaseLane l).dev.Lawful a l [] [] := by
  unfold Ev.releaseLane
  extract_lets e1 u e2 e3
  have h1 : e1.dev.Lawful a l [] [] := h.abort
  have hoff : (e2.modLane l fun u =>
      { u with window := [], overrun := false, chain := none, ingest := IngestLane.reset }).dev.Lawful a l [] [] :=
    h1.release
  have h3 : e3.dev.Lawful a l [] [] := hoff.resetLaneBlocks 0
  have hnote (n : Notice) : (if u.ingest.state = .off then e3 else e3.note n).dev = e3.dev := by
    rw [apply_ite Ev.dev, Ev.note_dev, ite_self]
  rw [hnote]
  exact h3

end
end Sys2Proof.Machine

/-! SUPPORT. The Render Engine, the Output Channels, the requests, the resets and the link keep the four laws, and so does
every command. -/
namespace Sys2Proof.Machine
section
variable {d d' : Device} {e : Ev} {l k : Lane} {i : SlotId} {x y : List SlotId} {a : DeviceLaw} {s t : State}
  {r : Request}

/-! ## The Render Engine and the Output Channels -/

theorem Device.Lawful.modChannel {f : Channel → Channel} (h : e.dev.Lawful a l x y) :
    (e.modChannel l f).dev.Lawful a l x y := h.beside rfl rfl rfl

theorem LaneUnit.LaneLaw.headJob {u : LaneUnit} {run : Option Job} {j : Job} {rest : List Job} (h : u.LaneLaw l run)
    (hj : u.op.jobs = j :: rest) :
    j.lane = l ∧ u.ingest.state ≠ .off ∧
      ∀ c : Channel, ({ u with op := { u.op with jobs := rest }, channel := c } : LaneUnit).LaneLaw l run := by
  obtain ⟨h1, h2, h3, h4, h5⟩ := h
  rw [hj] at h3 h4
  have hon : u.ingest.state ≠ .off := fun ho => by
    have := (h5 ho).2.2.2.1
    rw [hj] at this
    cases this
  refine ⟨(h3 j List.mem_cons_self).1, hon, fun c => ⟨h1, h2, fun m hm => h3 m (List.mem_cons_of_mem _ hm), ?_,
    fun ho => absurd ho hon⟩⟩
  exact ((List.sublist_cons_self j rest).filter _).length_le.trans h4

theorem Device.Lawful.grantTo (h : d.Lawful a l [] []) (hr : d.engine.running = none) :
    (d.grantTo l).Lawful a l [] [] := by
  unfold Device.grantTo
  split
  · rename_i j rest b hj hb
    have h1 : (d.modLane l fun u => { u with
        op := { u.op with jobs := rest }, channel := u.channel.setBuffer b .lent }).Lawful a l [] j.slots := by
      refine Device.Lawful.modLane (f := fun u => { u with
          op := { u.op with jobs := rest }, channel := u.channel.setBuffer b .lent }) rfl rfl (List.Subperm.refl _)
        (fun _ => List.Perm.refl _) (fun _ => ?_) (fun ha hl => (hl.headJob hj).2.2 _) h
      show ((d.lane l).window ++ rest.flatMap Job.slots ++ j.slots).Perm
        ((d.lane l).window ++ (d.lane l).op.jobs.flatMap Job.slots ++ [])
      rw [hj, List.flatMap_cons, List.append_nil, List.append_assoc]
      exact List.perm_append_comm.append_left _
    refine Device.Lawful.startJob (j := { j with state := .running, buffer := some b }) rfl hr (fun ha => ?_) h1
    obtain ⟨hjl, hon, -⟩ := (h.lanes ha l).headJob hj
    exact ⟨hjl, by rw [Device.lane_modLane_self]; exact hon⟩
  · exact h

theorem Device.Lawful.completeJob {j : Job} {b : Fin 2} (h : d.Lawful a j.lane [] [])
    (hr : d.engine.running = some j) : (d.completeJob j b).Lawful a j.lane [] [] := by
  unfold Device.completeJob
  extract_lets m d1 d2
  have h1 : d1.Lawful a j.lane [] [] := h.modLane_beside rfl rfl rfl
  have h2 : (d1.setDram m).Lawful a j.lane [] [] := h1.setDram fun _ hw => Dram.wf_writeRun _ _ hw
  have h3 := Device.Lawful.endJob (d := d1.setDram m) rfl hr rfl h2
  rw [List.append_nil] at h3
  exact h3.giveBack

theorem Device.Lawful.sendCompletion (h : e.dev.Lawful a l x y) : (e.sendCompletion l).dev.Lawful a l x y := by
  unfold Ev.sendCompletion
  split
  · exact ((Device.Lawful.modChannel h).modOp (Controller.holds_frameSent _ _)).settle
  · exact h

/-! ## Between commands -/

/-- The part keeps the law `a` between commands, where no event has anything in hand. -/
def Device.Law (a : DeviceLaw) (d : Device) : Prop := d.Lawful a 0 [] []

theorem Device.Law.at (h : d.Law a) (l : Lane) : d.Lawful a l [] [] := h.ofLane

theorem Device.Lawful.law (h : d.Lawful a l [] []) : d.Law a := h.ofLane

/-- A change of neither lanes, slots, running job nor DRAM. -/
theorem Device.Law.of_eq (hl : d'.lanes = d.lanes) (hs : d'.slots = d.slots) (hf : d'.freeList = d.freeList)
    (hd : a = .dramForm → d.dram.wf = true → d'.dram.wf = true) (he : d'.engine = d.engine) (h : d.Law a) :
    d'.Law a := by
  have hlane (k : Lane) : d'.lane k = d.lane k := by simp only [Device.lane, hl]
  have hslot (i : SlotId) : d'.slot i = d.slot i := by simp only [Device.slot, hs]
  refine .of_sameStore ⟨fun k => by rw [hlane], fun i => ⟨_, hslot i, rfl⟩, hf, by rw [he]⟩ (fun _ hq k => ?_) hd
    (fun _ hh k c => ?_) h
  · rw [hlane, Device.slotsInUse_congr (d := d) fun i => by rw [hslot]]
    exact hq k
  · rw [hlane]; exact hh k c

/-- A completion is held in its own lane, or no more. -/
theorem Device.Law.setHeld {c : Option Completion} (hc : ∀ z, c = some z → z.lane = l) (h : d.Law a) :
    (d.modLane l fun u => { u with op := { u.op with held := c } }).Law a := by
  refine .of_sameStore (d := d) ⟨fun k => ?_, fun i => ⟨_, rfl, rfl⟩, rfl, rfl⟩ (fun _ hq k => ?_) (fun _ => id)
    (fun _ hh k z => ?_) h <;> rw [Device.lane_modLane]
  · split
    · subst k; rfl
    · rfl
  · split
    · subst k; exact hq _
    · exact hq k
  · split
    · subst k; exact hc z
    · exact hh k z

theorem Device.Law.issueNotice {p : Device × Link} (h : p.1.Law a) (n : Notice) : (issueNotice p n).1.Law a := by
  cases n with
  | completion c =>
    show (issueCompletion p.1 p.2 c).1.Law a
    rcases issueCompletion_cases p.1 p.2 c with ⟨-, hi⟩ | ⟨-, hi⟩ <;> rw [hi]
    · refine h.setHeld fun z hz => ?_
      rw [← Option.some.inj hz]
    · exact h
  | _ => exact h

/-- The end of an event. -/
theorem Device.Law.commit (h : e.dev.Law a) (k : Link) : (e.commit k).1.Law a :=
  List.foldlRecOn (motive := fun p : Device × Link => p.1.Law a) _ _ h fun _ hp n _ => hp.issueNotice n

theorem State.law_event {f : Ev → Ev} (h : (f (Ev.start s.dev)).dev.Law a) : (s.event f).dev.Law a := h.commit _

theorem State.law_answer {z : Answer} (h : z.ev.dev.Law a) : (s.answer r z).dev.Law a := h.commit _

theorem State.law_request {kind : Nat} {f : Device → Request → Answer} (hs : s.dev.Law a)
    (h : ∀ r, (f s.dev r).ev.dev.Law a) : (s.request kind f).dev.Law a := by
  unfold State.request
  split
  · split
    · refine State.law_answer ?_
      split
      · exact h _
      · exact hs
    · exact hs
  · exact hs

/-! ## Requests -/

section
variable (h : d.Law a)
include h

theorem Device.Law.setHandler (x : Handler) : ({ d with handler := x } : Device).Law a :=
  .of_eq (d := d) rfl rfl rfl (fun _ => id) rfl h

theorem law_configureRequest : (configureRequest d r).ev.dev.Law a := by
  unfold configureRequest
  split
  · exact h
  split
  · exact h
  · rename_i l _
    extract_lets u items set e
    have he : e.dev.Lawful a l [] [] := Device.Lawful.beside (e := Ev.start d) (h.at l) rfl rfl rfl
    split
    · exact h
    split
    · exact h
    split
    · exact h
    split
    · exact h
    · dsimp only
      split
      · exact (he.resetTracker _).law
      · exact he.law

theorem law_inspectRequest : (inspectRequest d r).ev.dev.Law a := by
  unfold inspectRequest
  dsimp only
  repeat' split
  all_goals exact h

theorem law_loadProfileRequest : (loadProfileRequest d r).ev.dev.Law a := by
  unfold loadProfileRequest
  dsimp only
  split
  · exact h
  split
  · exact h
  · exact h.setHandler _

theorem law_setNoticesRequest : (setNoticesRequest d r).ev.dev.Law a := by
  unfold setNoticesRequest
  split
  · exact h.setHandler _
  · exact h

theorem law_setAccessRequest : (setAccessRequest d r).ev.dev.Law a := by
  unfold setAccessRequest
  dsimp only
  split
  · exact h.setHandler _
  · split
    · exact h.setHandler _
    · exact h
  · exact h

theorem law_loadCoefficientsRequest : (loadCoefficientsRequest d r).ev.dev.Law a := by
  unfold loadCoefficientsRequest
  dsimp only
  split
  · exact h
  split
  · exact h
  split
  · exact h
  · exact h.setHandler _

theorem law_coefficientDataRequest : (coefficientDataRequest d r).ev.dev.Law a := by
  unfold coefficientDataRequest
  dsimp only
  repeat' split
  all_goals exact h.setHandler _

theorem law_operationRequest {f : Lane → Answer} (hf : ∀ l, (f l).ev.dev.Law a) :
    (operationRequest d r f).ev.dev.Law a := by
  unfold operationRequest
  split
  · exact h
  split
  · exact h
  · exact hf _

theorem law_lockedLaneRequest {f : Lane → Answer} (hf : ∀ l, (f l).ev.dev.Law a) :
    (lockedLaneRequest d r f).ev.dev.Law a := by
  refine law_operationRequest h fun l => ?_
  split
  · exact h
  · exact hf l
  · exact h

/-- An accepted operation request leaves the pending jobs and the held completion of its lane. -/
theorem Device.Law.accept {g : Controller → Controller} (hg : ∀ op, (g op).holds = op.holds) :
    ((Ev.start d).modOp l g).dev.Law a := (Device.Lawful.modOp (e := Ev.start d) (h.at l) (hg _)).law

theorem law_acquireRequest : (acquireRequest d r).ev.dev.Law a := by
  refine law_operationRequest h fun l => ?_
  split
  · exact h
  · extract_lets st e e1
    split
    · exact h
    · have he : e.dev.Lawful a l [] [] := Device.Lawful.modOp (e := Ev.start d) (h.at l) rfl
      show e1.dev.Law a
      subst e1
      split
      · rename_i hoff
        refine (he.enableLane (fun ha => ?_) 0).law
        have hoff' : (e.dev.lane l).ingest.state = .off := by simpa [e] using hoff
        exact ((he.lanes ha l).off hoff').1
      · exact he.law

theorem law_cueRequest : (cueRequest d r).ev.dev.Law a := by
  refine law_lockedLaneRequest h fun l => ?_
  split
  · exact h
  · exact h.accept fun _ => rfl

theorem law_transferRequest : (transferRequest d r).ev.dev.Law a := by
  refine law_lockedLaneRequest h fun l => ?_
  split
  · exact h
  · dsimp only
    split
    · exact h
    · exact h.accept fun _ => rfl

theorem law_scanRequest : (scanRequest d r).ev.dev.Law a := by
  refine law_lockedLaneRequest h fun l => ?_
  split
  · exact h
  · exact h.accept fun _ => rfl

theorem law_probeRequest : (probeRequest d r).ev.dev.Law a :=
  law_lockedLaneRequest h fun _ => h.accept fun _ => rfl

theorem law_lineTestRequest : (lineTestRequest d r).ev.dev.Law a := by
  refine law_operationRequest h fun l => ?_
  split
  · exact h
  · exact h.accept fun _ => rfl

theorem law_amendRequest : (amendRequest d r).ev.dev.Law a := by
  unfold amendRequest
  split
  · rename_i l _ _ _
    dsimp only
    split
    · split
      · exact h
      split
      · exact h
      split
      · exact h
      · exact (Device.Lawful.amend (e := Ev.start d) (h.at l) _ _ _).law
    · exact h
  · exact h

theorem law_releaseRequest : (releaseRequest d r).ev.dev.Law a := by
  unfold releaseRequest
  split
  · exact h
  · rename_i l _
    exact (Device.Lawful.releaseLane (e := Ev.start d) (h.at l)).law

theorem law_stopRequest : (stopRequest d r).ev.dev.Law a := by
  unfold stopRequest
  split
  · exact h
  · rename_i l _
    split
    · exact h
    · exact (Device.Lawful.abort (e := Ev.start d) (h.at l)).discardJobs.law

end

/-! ## The partition -/

/-- With every lane OFF no slot is in use. -/
theorem Device.Law.unused (h : d.Law .fieldStore) (hoff : ∀ k, (d.lane k).ingest.state = .off) : d.slotsInUse k = 0 := by
  have hlane (k : Lane) := (h.lanes rfl k).off (hoff k)
  have hrefs (k : Lane) (i : SlotId) : (d.lane k).referencesOn i = 0 := by
    obtain ⟨-, -, hw, hj, -⟩ := hlane k
    simp [LaneUnit.referencesOn, hw, hj]
  have hrun : d.engine.running = none := by
    cases hr : d.engine.running with
    | none => rfl
    | some j => exact absurd rfl ((hlane j.lane).2.2.2.2 j hr)
  have howner (i : SlotId) : (d.slot i).owner ≠ some k := by
    intro ho
    have hl := h.slots rfl i
    cases hs : (d.slot i).state with
    | free => rw [hl.free hs] at ho; cases ho
    | writing =>
      obtain ⟨-, k', -, hi⟩ := hl.writing hs
      obtain ⟨hopen, hchain, -⟩ := hlane k'
      simp [LaneUnit.writes, LaneUnit.openSlot, LaneUnit.chainSlot, hopen, hchain] at hi
    | held =>
      have := hl.held hs
      simp [Device.referencesOn, hrefs, Engine.referencesOn, hrun] at this
      omega
  simp [Device.slotsInUse, howner]

theorem Device.lane_setQuota (body : List Byte) (d : Device) (l k : Lane) :
    (d.setQuota body l).lane k = { d.lane k with quota := if k = l then quotaIn body l else (d.lane k).quota } := by
  rw [Device.setQuota, Device.lane_modLane]
  split
  · subst k; rfl
  · rfl

/-- The quotas as a PARTITION body gives them, and nothing else of the part. -/
theorem Device.setQuotas_eq (body : List Byte) (d : Device) : ∃ ls : Vector LaneUnit 4,
    (List.finRange 4).foldl (Device.setQuota body) d = { d with lanes := ls } ∧
      ∀ k : Lane, ls[k] = { d.lane k with quota := quotaIn body k } := by
  refine ⟨((List.finRange 4).foldl (Device.setQuota body) d).lanes, ?_, fun k => ?_⟩
  · simp [List.finRange_succ, Device.setQuota, Device.modLane]
  · show ((List.finRange 4).foldl (Device.setQuota body) d).lane k = _
    simp only [List.finRange_succ, List.finRange_zero, List.map_nil, List.map_cons, List.foldl_cons, List.foldl_nil,
      Device.lane_setQuota]
    fin_cases k <;> simp

theorem law_partitionRequest (h : d.Law a) : (partitionRequest d r).ev.dev.Law a := by
  unfold partitionRequest
  split
  · exact h
  split
  · exact h
  split
  · exact h
  · rename_i hoff _
    obtain ⟨ls, hd, hls⟩ := d.setQuotas_eq r.body
    have hlane (k : Lane) : ({ d with lanes := ls } : Device).lane k = { d.lane k with quota := quotaIn r.body k } := hls k
    show ((List.finRange 4).foldl (Device.setQuota r.body) d).Law a
    rw [hd]
    refine .of_sameStore (d := d) ⟨fun k => by rw [hlane]; rfl, fun i => ⟨_, rfl, rfl⟩, rfl, rfl⟩ (fun ha _ k => ?_)
      (fun _ => id) (fun _ hh k c => by rw [hlane]; exact hh k c) h
    subst ha
    have hall : d.allOff = true := by simpa using hoff
    have hz : d.slotsInUse k = 0 :=
      h.unused fun k => of_decide_eq_true (List.all_eq_true.1 hall k (List.mem_finRange k))
    exact hz ▸ Nat.zero_le _

/-! ## Resets and the self test -/

/-- A part whose slots and lanes are at their reset values, what the law does not read aside. -/
theorem Device.Law.of_blank (hl : ∀ k, (d.lane k).holder = LaneUnit.powerOn.holder ∧ (d.lane k).op.held = none)
    (hs : d.slots = Device.powerOn.slots) (hf : d.freeList = initialFreeList) (hr : d.engine.running = none)
    (hd : a = .dramForm → d.dram.wf = true) : d.Law a := by
  have hslot (i : SlotId) : d.slot i = Device.powerOn.slot i := by simp only [Device.slot, hs]
  have hpower : Device.powerOn.Law a := by
    cases a
    · exact Device.lawful_dramForm.2 rfl
    · exact Device.lawful_heldOwn.2 fun k c hc => by rw [Device.lane_powerOn] at hc; cases hc
    · exact Device.lawful_freeList.2 Device.powerOn_freeListOk
    · exact Device.lawful_fieldStore.2 Device.powerOn_storeOk
  refine .of_sameStore (d := Device.powerOn) ⟨fun k => ?_, fun i => ⟨_, hslot i, rfl⟩, hf, hr⟩ (fun _ _ k => ?_)
    (fun ha _ => hd ha) (fun _ _ k c hc => ?_) hpower
  · rw [(hl k).1, Device.lane_powerOn]
  · rw [Device.slotsInUse_congr (d := Device.powerOn) fun i => by rw [hslot], Device.powerOn_slotsInUse]
    exact Nat.zero_le _
  · rw [(hl k).2] at hc; cases hc

theorem State.law_powerOn : s.powerOn.dev.Law a := by
  have hlane (k : Lane) : s.powerOn.dev.lane k = (s.dev.lane k).afterPowerOn := by
    simp [State.powerOn, Device.lane]
  exact .of_blank (fun k => by rw [hlane]; exact ⟨rfl, rfl⟩) rfl rfl rfl fun _ => Dram.wf_forgetAll _

theorem Device.Law.afterReset (h : d.Law a) : d.afterReset.Law a := by
  have hlane (k : Lane) : d.afterReset.lane k = (d.lane k).afterReset := by
    simp [Device.afterReset, Device.lane]
  exact .of_blank (fun k => by rw [hlane]; exact ⟨rfl, rfl⟩) rfl rfl rfl fun ha =>
    Dram.wf_forgetBuffers (h.dram ha)

section
variable (h : s.dev.Law a)
include h

theorem State.law_resetRequest : s.resetRequest.dev.Law a := by
  unfold State.resetRequest
  split
  · split
    · split
      · exact h.afterReset
      · exact State.law_answer h
    · exact h
  · exact h

theorem State.law_selfTest : s.selfTest.dev.Law a := by
  unfold State.selfTest
  split
  · split
    · split
      · exact State.law_answer h
      · exact .of_eq (d := s.dev) rfl rfl rfl (fun _ _ => Dram.wf_forgetAll _) rfl h
    · exact h
  · exact h

theorem State.law_endSelfTest (u : Option Nat) : (s.endSelfTest u).dev.Law a := by
  unfold State.endSelfTest
  split
  · exact .of_eq (d := s.dev) rfl rfl rfl (fun _ _ => Dram.wf_forgetAll _) rfl h
  · exact h

theorem State.law_unknownKind : s.unknownKind.dev.Law a := by
  unfold State.unknownKind
  split
  · split
    · exact h
    · exact State.law_answer h
  · exact h

/-! ## The link -/

theorem State.law_byteTimeEnd (b : Byte) : (s.byteTimeEnd b).dev.Law a := by
  have hheld {k : Link} {m : Message} : (releaseHeld s.dev k m).1.Law a := by
    unfold releaseHeld
    split
    · exact h
    · split
      · exact h
      · exact h.setHeld fun z hz => by cases hz
  unfold State.byteTimeEnd
  split
  · show (endOutByte s.dev (s.link.startDue.receive b)).1.Law a
    unfold endOutByte
    split
    · split
      · exact h
      · unfold recordLeaves
        dsimp only
        split
        · exact h
        · exact hheld
    · exact h
  · exact h

end

/-! ## Every command -/

theorem Ev.law_grant (h : e.dev.Law a) : e.grant.dev.Law a := by
  unfold Ev.grant
  split
  · rename_i l hr _
    exact (Device.Lawful.grantTo (h.at l) hr).law
  · exact h

theorem Ev.law_jobCompletion (h : e.dev.Law a) : e.jobCompletion.dev.Law a := by
  unfold Ev.jobCompletion
  split
  · rename_i j hr
    split
    · exact (Device.Lawful.completeJob (h.at j.lane) hr).law
    · exact h
  · exact h

/-- Every command keeps each of the four laws. -/
theorem exec_law {c : Instr} (h : s.dev.Law a) (hx : exec c s = .next t) : t.dev.Law a := by
  have lane (l : Lane) : (Ev.start s.dev).dev.Lawful a l [] [] := h.at l
  cases c with
  | powerOnReset => cases hx; exact State.law_powerOn
  | reset => cases hx; exact State.law_resetRequest h
  | selfTest => cases hx; exact State.law_selfTest h
  | selfTestEnd u =>
    simp only [exec, execSelfTestEnd] at hx
    split at hx
    · cases hx; exact State.law_endSelfTest h u
    · cases hx
  | fieldStart l p b => cases hx; exact State.law_event (lane l).fieldStart.law
  | lineStart l => cases hx; exact State.law_event (lane l).lineStart.law
  | sampleWord l v a b => cases hx; exact State.law_event (lane l).sampleWord.law
  | labelWord l w => cases hx; exact State.law_event (lane l).labelWord.law
  | noSignalTimerExpiry l => cases hx; exact State.law_event (lane l).timerExpiry.law
  | dropoutRepair l => cases hx; exact State.law_event ((lane l).chainStage _).law
  | labelJudgement l => cases hx; exact State.law_event ((lane l).chainStage _).law
  | cadenceMonitorEvent l => cases hx; exact State.law_event ((lane l).chainStage _).law
  | fieldTaken l => cases hx; exact State.law_event ((lane l).chainStage _).law
  | waitTimerExpiry l => cases hx; exact State.law_event (lane l).waitExpiry.law
  | testWindowEnd l x => cases hx; exact State.law_event ((lane l).windowEnd x).law
  | grant => cases hx; exact State.law_event (Ev.law_grant h)
  | jobCompletion => cases hx; exact State.law_event (Ev.law_jobCompletion h)
  | sendStart l => cases hx; exact State.law_event (lane l).modChannel.law
  | outputLineEnd l => cases hx; exact State.law_event (lane l).modChannel.law
  | recorderReadyRise l => cases hx; exact State.law_event (lane l).modChannel.law
  | recorderReadyFall l => cases hx; exact State.law_event (lane l).modChannel.law
  | sendCompletion l => cases hx; exact State.law_event (lane l).sendCompletion.law
  | strapFall => cases hx; exact .of_eq (d := s.dev) rfl rfl rfl (fun _ => id) rfl h
  | strapRise => cases hx; exact .of_eq (d := s.dev) rfl rfl rfl (fun _ => id) rfl h
  | selectRise => cases hx; exact h
  | selectFall => cases hx; exact h
  | recordStartOut => cases hx; exact h
  | frameReceived b =>
    simp only [exec, execFrameReceived] at hx
    split at hx <;> cases hx
    · exact State.law_byteTimeEnd h b
    · exact h
  | lengthFormatError b =>
    simp only [exec, execLengthFormatError] at hx
    split at hx <;> cases hx
    · exact State.law_byteTimeEnd h b
    · exact h
  | recordSent b =>
    simp only [exec, execRecordSent] at hx
    split at hx <;> cases hx
    · exact State.law_byteTimeEnd h b
    · exact h
  | byteTimeEnd b => cases hx; exact State.law_byteTimeEnd h b
  | status => cases hx; exact State.law_request h fun _ => h
  | capabilities => cases hx; exact State.law_request h fun _ => h
  | inspectField => cases hx; exact State.law_request h fun _ => law_inspectRequest h
  | loadProfile => cases hx; exact State.law_request h fun _ => law_loadProfileRequest h
  | setNotices => cases hx; exact State.law_request h fun _ => law_setNoticesRequest h
  | setAccess => cases hx; exact State.law_request h fun _ => law_setAccessRequest h
  | loadCoefficients => cases hx; exact State.law_request h fun _ => law_loadCoefficientsRequest h
  | coefficientData => cases hx; exact State.law_request h fun _ => law_coefficientDataRequest h
  | configureLane => cases hx; exact State.law_request h fun _ => law_configureRequest h
  | partition => cases hx; exact State.law_request h fun _ => law_partitionRequest h
  | acquire => cases hx; exact State.law_request h fun _ => law_acquireRequest h
  | release => cases hx; exact State.law_request h fun _ => law_releaseRequest h
  | cue => cases hx; exact State.law_request h fun _ => law_cueRequest h
  | transfer => cases hx; exact State.law_request h fun _ => law_transferRequest h
  | amend => cases hx; exact State.law_request h fun _ => law_amendRequest h
  | scan => cases hx; exact State.law_request h fun _ => law_scanRequest h
  | probe => cases hx; exact State.law_request h fun _ => law_probeRequest h
  | lineTest => cases hx; exact State.law_request h fun _ => law_lineTestRequest h
  | stop => cases hx; exact State.law_request h fun _ => law_stopRequest h
  | unknownKind => cases hx; exact State.law_unknownKind h

theorem step_law (h : s.dev.Law a) (hx : step s = .next t) : t.dev.Law a := by
  unfold step at hx
  split at hx
  · cases hx; exact h
  · rename_i c rest _
    exact exec_law (s := { s with pending := rest }) h hx

end
end Sys2Proof.Machine

/-! PROOFS. The canonical form of the stacked DRAM, the free list and the Field Store are kept by every step (R31 to R35,
R44). -/
namespace Sys2Proof.Machine
section
variable {d : Device} {i : SlotId}

/-- A slot that is not FREE has an owner: where it is HELD, the owner of a reference on it. -/
theorem Device.slotOk_owner (h : d.slotOk i) : (d.slot i).owner = none ↔ (d.slot i).state = .free := by
  obtain ⟨hfree, hwriting, hheld, -, -, howner, hrun⟩ := h
  constructor
  · intro ho
    cases hs : (d.slot i).state with
    | free => rfl
    | writing =>
      obtain ⟨-, k, hk, -⟩ := hwriting hs
      rw [ho] at hk
      cases hk
    | held =>
      obtain ⟨hr, hp⟩ := hheld hs
      have hlane (k : Lane) : (d.lane k).referencesOn i = 0 := by
        by_contra hk
        have := howner k hk
        rw [ho] at this
        cases this
      have hengine : d.engine.referencesOn i = 0 := by
        unfold Engine.referencesOn
        cases hj : d.engine.running with
        | none => rfl
        | some j =>
          by_contra hc
          have := hrun j hj hc
          rw [ho] at this
          cases this
      rw [Device.referencesOn_eq, hlane, hlane, hlane, hlane, hengine] at hr
      omega
  · intro hs
    rw [hfree hs]

/-- Slots are unowned or one lane's. -/
theorem length_by_owner (f : SlotId → Option Lane) (is : List SlotId) :
    (is.filter fun i => f i = none).length + ((is.filter fun i => f i = some 0).length +
      (is.filter fun i => f i = some 1).length + (is.filter fun i => f i = some 2).length +
      (is.filter fun i => f i = some 3).length) = is.length := by
  induction is with
  | nil => rfl
  | cons i is ih =>
    rw [List.length_cons, ← ih]
    cases hf : f i with
    | none => simp [hf]; omega
    | some k => fin_cases k <;> simp [hf] <;> omega

/-- Where the law of the Field Store holds, every slot is FREE or in use by one lane. -/
theorem Device.storeOk_count (h : d.storeOk) :
    d.freeList.length + (d.slotsInUse 0 + d.slotsInUse 1 + d.slotsInUse 2 + d.slotsInUse 3) = 96 := by
  obtain ⟨⟨hnodup, hmem, -⟩, hslots, -⟩ := h
  have hperm : d.freeList.Perm ((List.finRange 96).filter fun i => (d.slot i).owner = none) := by
    refine (List.perm_ext_iff_of_nodup hnodup ((List.nodup_finRange 96).filter _)).2 fun i => ?_
    rw [hmem, ← Device.slotOk_owner (hslots i)]
    simp
  rw [hperm.length_eq]
  exact (length_by_owner (fun i => (d.slot i).owner) (List.finRange 96)).trans (List.length_finRange)

end

/-- Settles O54: the canonical form of the DRAM is one of the laws that every step keeps. -/
theorem everyStepKeepsDramForm : Obligations.EveryStepKeepsDramForm := fun _ _ h hx =>
  Device.lawful_dramForm.1 (step_law (Device.lawful_dramForm.2 h) hx)

/-- Settles O56: the law of the free list is one of the laws that every step keeps. -/
theorem everyStepKeepsFreeList : Obligations.EveryStepKeepsFreeList := fun _ _ h hx =>
  Device.lawful_freeList.1 (step_law (Device.lawful_freeList.2 h) hx)

/-- Settles O57: the law of the Field Store is one of the laws that every step keeps; a slot without owner is FREE. -/
theorem everyStepKeepsFieldStore : Obligations.EveryStepKeepsFieldStore :=
  ⟨fun _ _ h hx => Device.lawful_fieldStore.1 (step_law (Device.lawful_fieldStore.2 h) hx),
    fun _ h => ⟨(Device.lawful_fieldStore (l := 0)).2 h |>.quota rfl, Device.storeOk_count h⟩⟩

end Sys2Proof.Machine

/-! SUPPORT. The law of the link, event by event: the classes of the outbound queue, the request queue, the record in flight
and the place kept for a running self test's reply (R48, R164, R169, R172). -/
namespace Sys2Proof.Machine
section
variable {d d' : Device} {k k' : Link} {s t : State} {r : Request} {x : HandlerState} {m : Message} {e : Ev} {l : Lane}

/-- The law of the link while the Request Handler is in state `x`, the held completions aside. -/
structure Link.Lawful (x : HandlerState) (k : Link) : Prop where
  classes  : k.classesOk
  requests : k.requests.length ≤ 4
  flight   : k.flightOk
  place    : x ≠ .free → k.replies ≤ 3

theorem State.linkLaw_iff : s.linkLaw ↔ s.link.Lawful s.dev.handler.state ∧ s.dev.heldOk :=
  ⟨fun ⟨h1, h2, h3, h4, h5⟩ => ⟨⟨h1, h2, h3, h4⟩, h5⟩, fun ⟨⟨h1, h2, h3, h4⟩, h5⟩ => ⟨h1, h2, h3, h4, h5⟩⟩

/-! ## The outbound queue -/

/-- The messages of the outbound queue say its classes. -/
theorem Link.classes_of_messages (h : k'.outbound.map Record.message = k.outbound.map Record.message) :
    k'.replies = k.replies ∧ (k.classesOk → k'.classesOk) := by
  have hcount (p : Message → Bool) : (k'.outbound.filter fun r => p r.message).length =
      (k.outbound.filter fun r => p r.message).length := by
    have hp := congrArg (fun ms => (ms.filter p).length) h
    simpa only [List.filter_map, List.length_map, Function.comp_def] using hp
  have hr : k'.replies = k.replies := hcount _
  have hg : k'.generals = k.generals := hcount _
  have hl (l : Lane) : k'.completionsOf l = k.completionsOf l := hcount _
  exact ⟨hr, fun ⟨h1, h2, h3⟩ => ⟨hr ▸ h1, hg ▸ h2, fun l => hl l ▸ h3 l⟩⟩

/-- A link that differs in neither queue nor the record in flight. -/
theorem Link.Lawful.of_queues (h : k.Lawful x) (ho : k'.outbound = k.outbound) (hr : k'.requests = k.requests)
    (hf : k'.inFlight = k.inFlight) : k'.Lawful x := by
  obtain ⟨hreplies, hclasses⟩ := Link.classes_of_messages (congrArg (List.map Record.message) ho)
  refine ⟨hclasses h.classes, hr ▸ h.requests, fun f hfl horph => ?_, fun hx => hreplies ▸ h.place hx⟩
  rw [ho]
  exact h.flight f (hf ▸ hfl) horph

/-- A reply joins where one has its place. -/
theorem Link.Lawful.reply {y : Reply} (h : k.Lawful x) (hp : k.replies ≤ 3) : (k.join (.reply y)).Lawful .free := by
  obtain ⟨⟨-, hg, hc⟩, hr, hf, -⟩ := h
  refine ⟨⟨?_, ?_, fun l => ?_⟩, hr, fun f hfl horph => ?_, fun hx => absurd rfl hx⟩
  · rw [Link.replies_join]
    show _ + 1 ≤ 4
    omega
  · rw [Link.generals_join]; exact hg
  · rw [Link.completionsOf_join]; exact hc l
  · have hhead := hf f hfl horph
    rw [Link.join_outbound, List.head?_append, hhead]
    rfl

/-- Notices join in their order. -/
theorem IssueFrame.lawful {p q : Device × Link} (hf : IssueFrame p q) (h : p.2.Lawful x) : q.2.Lawful x := by
  obtain ⟨hclasses, hreplies, hrequests, hflight, hhead, -⟩ := hf
  refine ⟨hclasses h.classes, hrequests ▸ h.requests, fun f hfl horph => ?_, fun hx => hreplies ▸ h.place hx⟩
  have hp := h.flight f (hflight ▸ hfl) horph
  rw [hhead fun hn => by rw [hn] at hp; cases hp]
  exact hp

/-- An event that leaves the Request Handler's state. -/
theorem State.linkLawful_event {f : Ev → Ev} (hh : (f (Ev.start s.dev)).dev.handler.state = s.dev.handler.state)
    (h : s.link.Lawful s.dev.handler.state) : (s.event f).link.Lawful (s.event f).dev.handler.state := by
  have hf := (f (Ev.start s.dev)).commit_frame s.link
  have hhandler : (s.event f).dev.handler = (f (Ev.start s.dev)).dev.handler := hf.2.2.2.2.2
  rw [hhandler, hh]
  exact hf.lawful h

theorem Link.classesOk_singleton {y : Record} (h : k.outbound = [y]) : k.classesOk := by
  have hone (p : Record → Bool) : (k.outbound.filter p).length ≤ 1 := by
    rw [h]
    exact List.length_filter_le p [y]
  exact ⟨(hone _).trans (by decide), (hone _).trans (by decide), fun l => hone _⟩

/-- A record that a RESET sends on has left the queue. -/
theorem InFlight.acrossReset_orphan {f g : InFlight} (h : g.acrossReset = some f) : f.orphan = true := by
  unfold InFlight.acrossReset at h
  split at h
  · cases h
  · cases h; rfl

/-! ## Requests -/

/-- A request that the handler may take finds it FREE, with a place for the reply. -/
theorem State.takeable_spec (h : s.takeable = some r) : s.dev.handler.state = .free ∧ s.link.replies ≤ 3 := by
  unfold State.takeable at h
  split at h
  · rename_i hs _
    split at h
    · rename_i hlt
      exact ⟨hs, Nat.le_of_lt_succ hlt⟩
    · cases h
  · cases h

theorem Link.Lawful.dequeue (h : k.Lawful x) : k.dequeue.Lawful x :=
  ⟨h.classes, (by rw [Link.dequeue, List.length_tail]; exact (Nat.sub_le _ _).trans h.requests), h.flight, h.place⟩

theorem State.linkLawful_answer {z : Answer} (ht : s.takeable = some r)
    (hh : z.ev.dev.handler.state = s.dev.handler.state) (h : s.link.Lawful s.dev.handler.state) :
    (s.answer r z).link.Lawful (s.answer r z).dev.handler.state := by
  obtain ⟨hfree, hplace⟩ := State.takeable_spec ht
  have hf := z.ev.commit_frame s.link.dequeue
  have hhandler : (s.answer r z).dev.handler = z.ev.dev.handler := hf.2.2.2.2.2
  rw [hhandler, hh, hfree]
  refine (hf.lawful h.dequeue).reply ?_
  rw [hf.2.1]
  exact hplace

theorem State.linkLawful_request {kind : Nat} {f : Device → Request → Answer}
    (hh : ∀ r, (f s.dev r).ev.dev.handler.state = s.dev.handler.state) (h : s.link.Lawful s.dev.handler.state) :
    (s.request kind f).link.Lawful (s.request kind f).dev.handler.state := by
  unfold State.request
  split
  · split
    · refine State.linkLawful_answer ‹_› ?_ h
      split
      · exact hh _
      · rfl
    · exact h
  · exact h

section
variable (h : s.link.Lawful s.dev.handler.state)
include h

theorem State.linkLawful_selfTest : s.selfTest.link.Lawful s.selfTest.dev.handler.state := by
  unfold State.selfTest
  split
  · rename_i ht
    split
    · split
      · exact State.linkLawful_answer ht rfl h
      · have hd := h.dequeue
        exact ⟨hd.classes, hd.requests, hd.flight, fun _ => (State.takeable_spec ht).2⟩
    · exact h
  · exact h

theorem State.linkLawful_endSelfTest (u : Option Nat) :
    (s.endSelfTest u).link.Lawful (s.endSelfTest u).dev.handler.state := by
  unfold State.endSelfTest
  split
  · rename_i tag hs
    exact h.reply (h.place (by rw [hs]; exact fun hx => by cases hx))
  · exact h

theorem State.linkLawful_resetRequest : s.resetRequest.link.Lawful s.resetRequest.dev.handler.state := by
  unfold State.resetRequest
  split
  · split
    · split
      · refine ⟨Link.classesOk_singleton rfl, Nat.zero_le 4, fun f hf horph => ?_, fun hx => absurd rfl hx⟩
        obtain ⟨g, -, hg⟩ := Option.bind_eq_some_iff.1 hf
        rw [InFlight.acrossReset_orphan hg] at horph
        cases horph
      · exact State.linkLawful_answer ‹_› rfl h
    · exact h
  · exact h

theorem State.linkLawful_unknownKind : s.unknownKind.link.Lawful s.unknownKind.dev.handler.state := by
  unfold State.unknownKind
  split
  · split
    · exact h
    · exact State.linkLawful_answer ‹_› rfl h
  · exact h

end

theorem State.linkLawful_powerOn : s.powerOn.link.Lawful s.powerOn.dev.handler.state :=
  ⟨Link.classesOk_singleton rfl, Nat.zero_le 4, fun f hf => (by cases hf), fun hx => absurd rfl hx⟩

/-! ## Byte times -/

theorem Link.Lawful.startOut (h : k.Lawful x) : k.startOut.Lawful x := by
  unfold Link.startOut
  split
  · exact h.of_queues rfl rfl rfl
  · rename_i r rest ho
    obtain ⟨hreplies, hclasses⟩ := Link.classes_of_messages (k' := k.startOut) (k := k) (by simp [Link.startOut, ho])
    simp only [Link.startOut, ho] at hreplies hclasses
    refine ⟨hclasses h.classes, h.requests, fun f hf _ => ?_, fun hx => hreplies ▸ h.place hx⟩
    rw [← Option.some.inj hf]
    rfl

theorem Link.Lawful.startDue (h : k.Lawful x) : k.startDue.Lawful x := by
  unfold Link.startDue
  split
  · exact h.startOut
  · exact h

theorem Link.Lawful.beginByte (h : k.Lawful x) : k.beginByte.Lawful x := h.of_queues rfl rfl rfl

theorem Link.Lawful.receive (h : k.Lawful x) (b : Byte) : (k.receive b).Lawful x := by
  obtain ⟨ho, hf, -, -, hr⟩ := k.receive_spec b
  obtain ⟨hreplies, hclasses⟩ := Link.classes_of_messages (congrArg (List.map Record.message) ho)
  refine ⟨hclasses h.classes, hr h.requests, fun f hfl horph => ?_, fun hx => hreplies ▸ h.place hx⟩
  rw [ho]
  exact h.flight f (hf ▸ hfl) horph

theorem Link.Lawful.withoutFlight (h : k.Lawful x) : ({ k with inFlight := none } : Link).Lawful x :=
  ⟨h.classes, h.requests, fun f hf => (by cases hf), h.place⟩

theorem Link.Lawful.tail (h : k.Lawful x) :
    ({ k with inFlight := none, outbound := k.outbound.tail } : Link).Lawful x := by
  refine ⟨Link.classesOk_tail h.classes, h.requests, fun f hf => (by cases hf), fun hx => ?_⟩
  exact ((k.outbound.tail_sublist.filter _).length_le).trans (h.place hx)

/-- A held completion joins behind the lane's previous one, which has just left the queue (R134). -/
theorem Link.Lawful.releaseHeld {c : Record} (h : k.Lawful x) (hd : d.heldOk) (ho : k.outbound.head? = some c) :
    (releaseHeld d { k with inFlight := none, outbound := k.outbound.tail } c.message).2.Lawful x := by
  have ht := h.tail
  unfold Machine.releaseHeld
  split
  · exact ht
  · rename_i l hl
    split
    · exact ht
    · rename_i z hz
      have hzl : z.lane = l := hd l z hz
      have hmessage : c.message.isCompletionOf l = true := by
        unfold Message.completionLane at hl
        split at hl
        · rename_i y hy
          rw [hy]
          exact decide_eq_true (Option.some.inj hl)
        · cases hl
      obtain ⟨rest, hrest⟩ : ∃ rest, k.outbound = c :: rest := by
        cases hk : k.outbound with
        | nil => rw [hk] at ho; cases ho
        | cons a as => rw [hk] at ho; exact ⟨as, by rw [← Option.some.inj ho]⟩
      have hnone : ({ k with inFlight := none, outbound := k.outbound.tail } : Link).completionsOf l = 0 := by
        have hone := h.classes.2.2 l
        rw [Link.completionsOf, hrest, List.filter_cons, if_pos hmessage, List.length_cons] at hone
        show (k.outbound.tail.filter _).length = 0
        rw [hrest]
        exact Nat.le_zero.1 (Nat.le_of_succ_le_succ hone)
      refine (IssueFrame.join d { k with inFlight := none, outbound := k.outbound.tail } (.completion z)
        (fun hg => by cases hg) fun l' hl' => ?_).lawful ht
      obtain rfl : z.lane = l' := by simpa [Message.isCompletionOf] using hl'
      rw [hzl]
      exact hnone

theorem Link.Lawful.endOutByte (h : k.Lawful x) (hd : d.heldOk) : (endOutByte d k).2.Lawful x := by
  unfold Machine.endOutByte
  split
  · rename_i f _ hf
    split
    · exact ⟨h.classes, h.requests, fun g hg horph => by
        cases hg
        exact h.flight f hf horph, h.place⟩
    · unfold recordLeaves
      dsimp only
      split
      · exact h.withoutFlight
      · rename_i horph
        exact h.releaseHeld hd (h.flight f hf (by simpa using horph))
  · exact h

theorem endOutByte_handler : (endOutByte d k).1.handler = d.handler := by
  unfold endOutByte
  split
  · split
    · rfl
    · unfold recordLeaves releaseHeld
      dsimp only
      split
      · rfl
      · split
        · rfl
        · split <;> rfl
  · rfl

theorem State.linkLawful_byteTimeEnd (h : s.link.Lawful s.dev.handler.state) (hd : s.dev.heldOk) (b : Byte) :
    (s.byteTimeEnd b).link.Lawful (s.byteTimeEnd b).dev.handler.state := by
  unfold State.byteTimeEnd
  split
  · show (endOutByte s.dev (s.link.startDue.receive b)).2.beginByte.Lawful
      (endOutByte s.dev (s.link.startDue.receive b)).1.handler.state
    rw [endOutByte_handler]
    exact ((h.startDue.receive b).endOutByte hd).beginByte
  · exact h

theorem Link.Lawful.selectRise (h : k.Lawful x) : k.selectRise.Lawful x := by
  unfold Link.selectRise
  split
  · have h2 : ({ k.startDue with selected := false, byteTime := .closed, inFlight := none } : Link).Lawful x :=
      h.startDue.withoutFlight.of_queues (k := { k.startDue with inFlight := none }) rfl rfl rfl
    dsimp only
    split
    · exact h2
    · exact h2.of_queues rfl rfl rfl
  · exact h

theorem Link.Lawful.selectFall (h : k.Lawful x) : k.selectFall.Lawful x := by
  unfold Link.selectFall
  split
  · exact h
  · exact h.of_queues rfl rfl rfl

theorem Link.Lawful.recordStart (h : k.Lawful x) : k.recordStart.Lawful x := by
  unfold Link.recordStart
  split
  · exact h.startOut
  · exact h

/-! ## The Request Handler's state -/

theorem Ev.handler_jobCompletion : e.jobCompletion.dev.handler = e.dev.handler := by
  unfold Ev.jobCompletion
  split
  · split
    · exact Device.giveBack_handler _ _ _
    · rfl
  · rfl

theorem Ev.handler_grant : e.grant.dev.handler = e.dev.handler := by
  unfold Ev.grant
  split
  · show (Device.grantTo _ _).handler = _
    unfold Device.grantTo
    split <;> rfl
  · rfl

theorem handler_setQuotas (body : List Byte) (d : Device) :
    ((List.finRange 4).foldl (Device.setQuota body) d).handler = d.handler :=
  foldl_keeps (Device.setQuota body) Device.handler (fun _ _ => rfl) _ d

section
variable {l : Lane}

theorem handlerState_configure : (configureRequest d r).ev.dev.handler.state = d.handler.state := by
  unfold configureRequest
  split
  · rfl
  · split
    · rfl
    · rename_i l _
      extract_lets u items set e
      split
      · rfl
      · split
        · rfl
        · split
          · rfl
          · split
            · rfl
            · dsimp only
              split
              · exact congrArg Handler.state (Ev.handler_of_outside (e := e) (Ev.outside_resetTracker (l := l) _))
              · rfl

theorem handlerState_inspect : (inspectRequest d r).ev.dev.handler.state = d.handler.state := by
  unfold inspectRequest
  dsimp only
  repeat' split
  all_goals rfl

theorem handlerState_loadProfile : (loadProfileRequest d r).ev.dev.handler.state = d.handler.state := by
  unfold loadProfileRequest
  dsimp only
  repeat' split
  all_goals rfl

theorem handlerState_setNotices : (setNoticesRequest d r).ev.dev.handler.state = d.handler.state := by
  unfold setNoticesRequest
  split <;> rfl

theorem handlerState_setAccess : (setAccessRequest d r).ev.dev.handler.state = d.handler.state := by
  unfold setAccessRequest
  dsimp only
  repeat' split
  all_goals rfl

theorem handlerState_loadCoefficients : (loadCoefficientsRequest d r).ev.dev.handler.state = d.handler.state := by
  unfold loadCoefficientsRequest
  dsimp only
  repeat' split
  all_goals rfl

theorem handlerState_coefficientData : (coefficientDataRequest d r).ev.dev.handler.state = d.handler.state := by
  unfold coefficientDataRequest
  dsimp only
  repeat' split
  all_goals rfl

theorem handlerState_partition : (partitionRequest d r).ev.dev.handler.state = d.handler.state := by
  unfold partitionRequest
  split
  · rfl
  · split
    · rfl
    · split
      · rfl
      · exact congrArg Handler.state (handler_setQuotas _ _)

theorem handlerState_operation {f : Lane → Answer} (hf : ∀ l, (f l).ev.dev.handler.state = d.handler.state) :
    (operationRequest d r f).ev.dev.handler.state = d.handler.state := by
  unfold operationRequest
  split
  · rfl
  · split
    · rfl
    · exact hf _

theorem handlerState_lockedLane {f : Lane → Answer} (hf : ∀ l, (f l).ev.dev.handler.state = d.handler.state) :
    (lockedLaneRequest d r f).ev.dev.handler.state = d.handler.state := by
  refine handlerState_operation fun l => ?_
  split
  · rfl
  · exact hf l
  · rfl

theorem handlerState_acquire : (acquireRequest d r).ev.dev.handler.state = d.handler.state := by
  refine handlerState_operation fun l => ?_
  split
  · rfl
  · extract_lets st e e1
    split
    · rfl
    · show e1.dev.handler.state = _
      subst e1
      split
      · exact congrArg Handler.state (Ev.handler_of_outside (e := e) (Ev.outside_enableLane (l := l) 0))
      · rfl

theorem handlerState_cue : (cueRequest d r).ev.dev.handler.state = d.handler.state := by
  refine handlerState_lockedLane fun l => ?_
  split <;> rfl

theorem handlerState_transfer : (transferRequest d r).ev.dev.handler.state = d.handler.state := by
  refine handlerState_lockedLane fun l => ?_
  split
  · rfl
  · dsimp only
    split <;> rfl

theorem handlerState_scan : (scanRequest d r).ev.dev.handler.state = d.handler.state := by
  refine handlerState_lockedLane fun l => ?_
  split <;> rfl

theorem handlerState_probe : (probeRequest d r).ev.dev.handler.state = d.handler.state :=
  handlerState_lockedLane fun _ => rfl

theorem handlerState_lineTest : (lineTestRequest d r).ev.dev.handler.state = d.handler.state := by
  refine handlerState_operation fun l => ?_
  split <;> rfl

theorem handlerState_amend : (amendRequest d r).ev.dev.handler.state = d.handler.state := by
  unfold amendRequest
  split
  · rename_i l t _ _
    dsimp only
    split
    · rename_i sub p _
      split
      · rfl
      · split
        · rfl
        · split
          · rfl
          · exact congrArg Handler.state (Ev.handler_of_outside (e := Ev.start d) (Ev.outside_amend (l := l) sub p t))
    · rfl
  · rfl

theorem handlerState_release : (releaseRequest d r).ev.dev.handler.state = d.handler.state := by
  unfold releaseRequest
  split
  · rfl
  · rename_i l _
    exact congrArg Handler.state (Ev.handler_of_outside (e := Ev.start d) (Ev.outside_releaseLane (l := l)))

theorem handlerState_stop : (stopRequest d r).ev.dev.handler.state = d.handler.state := by
  unfold stopRequest
  split
  · rfl
  · rename_i l _
    split
    · rfl
    · exact congrArg Handler.state (Ev.handler_of_outside (e := Ev.start d)
        ((Ev.outside_discardJobs (l := l) [] []).trans Ev.outside_abort))

end

/-! ## Every command -/

/-- An event of one lane leaves the Request Handler alone. -/
theorem State.linkLawful_lane {f : Ev → Ev} (hf : (f (Ev.start s.dev)).outside l = (Ev.start s.dev).outside l)
    (h : s.link.Lawful s.dev.handler.state) : (s.event f).link.Lawful (s.event f).dev.handler.state :=
  State.linkLawful_event (congrArg Handler.state (Ev.handler_of_outside hf)) h

theorem exec_linkLawful {c : Instr} (h : s.link.Lawful s.dev.handler.state) (hd : s.dev.heldOk)
    (hx : exec c s = .next t) : t.link.Lawful t.dev.handler.state := by
  cases c with
  | powerOnReset => cases hx; exact State.linkLawful_powerOn
  | reset => cases hx; exact State.linkLawful_resetRequest h
  | selfTest => cases hx; exact State.linkLawful_selfTest h
  | selfTestEnd u =>
    simp only [exec, execSelfTestEnd] at hx
    split at hx
    · cases hx; exact State.linkLawful_endSelfTest h u
    · cases hx
  | fieldStart l p b => cases hx; exact State.linkLawful_lane (Ev.outside_fieldStart p b) h
  | lineStart l => cases hx; exact State.linkLawful_lane Ev.outside_lineStart h
  | sampleWord l v a b => cases hx; exact State.linkLawful_lane (Ev.outside_sampleWord v a b) h
  | labelWord l w => cases hx; exact State.linkLawful_lane (Ev.outside_labelWord w) h
  | noSignalTimerExpiry l => cases hx; exact State.linkLawful_lane Ev.outside_timerExpiry h
  | dropoutRepair l => cases hx; exact State.linkLawful_lane (Ev.outside_chainStage _) h
  | labelJudgement l => cases hx; exact State.linkLawful_lane (Ev.outside_chainStage _) h
  | cadenceMonitorEvent l => cases hx; exact State.linkLawful_lane (Ev.outside_chainStage _) h
  | fieldTaken l => cases hx; exact State.linkLawful_lane (Ev.outside_chainStage _) h
  | waitTimerExpiry l => cases hx; exact State.linkLawful_lane Ev.outside_waitExpiry h
  | testWindowEnd l y => cases hx; exact State.linkLawful_lane (Ev.outside_windowEnd y) h
  | grant => cases hx; exact State.linkLawful_event (congrArg Handler.state Ev.handler_grant) h
  | jobCompletion => cases hx; exact State.linkLawful_event (congrArg Handler.state Ev.handler_jobCompletion) h
  | sendStart l => cases hx; exact State.linkLawful_lane (Ev.outside_modChannel (l := l) _) h
  | outputLineEnd l => cases hx; exact State.linkLawful_lane (Ev.outside_modChannel (l := l) _) h
  | recorderReadyRise l => cases hx; exact State.linkLawful_lane (Ev.outside_modChannel (l := l) _) h
  | recorderReadyFall l => cases hx; exact State.linkLawful_lane (Ev.outside_modChannel (l := l) _) h
  | sendCompletion l => cases hx; exact State.linkLawful_lane Ev.outside_sendCompletion h
  | strapFall => cases hx; exact h
  | strapRise => cases hx; exact h
  | selectRise => cases hx; exact h.selectRise
  | selectFall => cases hx; exact h.selectFall
  | recordStartOut => cases hx; exact h.recordStart
  | frameReceived b =>
    simp only [exec, execFrameReceived] at hx
    split at hx <;> cases hx
    · exact State.linkLawful_byteTimeEnd h hd b
    · exact h
  | lengthFormatError b =>
    simp only [exec, execLengthFormatError] at hx
    split at hx <;> cases hx
    · exact State.linkLawful_byteTimeEnd h hd b
    · exact h
  | recordSent b =>
    simp only [exec, execRecordSent] at hx
    split at hx <;> cases hx
    · exact State.linkLawful_byteTimeEnd h hd b
    · exact h
  | byteTimeEnd b => cases hx; exact State.linkLawful_byteTimeEnd h hd b
  | status => cases hx; exact State.linkLawful_request (fun _ => rfl) h
  | capabilities => cases hx; exact State.linkLawful_request (fun _ => rfl) h
  | inspectField => cases hx; exact State.linkLawful_request (fun _ => handlerState_inspect) h
  | loadProfile => cases hx; exact State.linkLawful_request (fun _ => handlerState_loadProfile) h
  | setNotices => cases hx; exact State.linkLawful_request (fun _ => handlerState_setNotices) h
  | setAccess => cases hx; exact State.linkLawful_request (fun _ => handlerState_setAccess) h
  | loadCoefficients => cases hx; exact State.linkLawful_request (fun _ => handlerState_loadCoefficients) h
  | coefficientData => cases hx; exact State.linkLawful_request (fun _ => handlerState_coefficientData) h
  | configureLane => cases hx; exact State.linkLawful_request (fun _ => handlerState_configure) h
  | partition => cases hx; exact State.linkLawful_request (fun _ => handlerState_partition) h
  | acquire => cases hx; exact State.linkLawful_request (fun _ => handlerState_acquire) h
  | release => cases hx; exact State.linkLawful_request (fun _ => handlerState_release) h
  | cue => cases hx; exact State.linkLawful_request (fun _ => handlerState_cue) h
  | transfer => cases hx; exact State.linkLawful_request (fun _ => handlerState_transfer) h
  | amend => cases hx; exact State.linkLawful_request (fun _ => handlerState_amend) h
  | scan => cases hx; exact State.linkLawful_request (fun _ => handlerState_scan) h
  | probe => cases hx; exact State.linkLawful_request (fun _ => handlerState_probe) h
  | lineTest => cases hx; exact State.linkLawful_request (fun _ => handlerState_lineTest) h
  | stop => cases hx; exact State.linkLawful_request (fun _ => handlerState_stop) h
  | unknownKind => cases hx; exact State.linkLawful_unknownKind h

theorem step_linkLaw (h : s.linkLaw) (hx : step s = .next t) : t.linkLaw := by
  obtain ⟨hl, hd⟩ := State.linkLaw_iff.1 h
  refine State.linkLaw_iff.2 ⟨?_, Device.lawful_heldOwn.1 (step_law (Device.lawful_heldOwn.2 hd) hx)⟩
  unfold step at hx
  split at hx
  · cases hx; exact hl
  · rename_i c rest _
    exact exec_linkLawful (s := { s with pending := rest }) hl hd hx

/-! ## The records of the outbound queue -/

/-- Every record is of one class, and a completion of one lane. -/
theorem length_by_class (rs : List Record) :
    rs.length = (rs.filter fun r => r.message.isReply).length + (rs.filter fun r => r.message.isGeneral).length +
      ((rs.filter fun r => r.message.isCompletionOf 0).length + (rs.filter fun r => r.message.isCompletionOf 1).length +
        (rs.filter fun r => r.message.isCompletionOf 2).length +
        (rs.filter fun r => r.message.isCompletionOf 3).length) := by
  induction rs with
  | nil => rfl
  | cons r rs ih =>
    rw [List.length_cons, ih]
    rcases r.message.class_cases with ⟨hr, hg, hc⟩ | ⟨hr, hg, hc⟩ | ⟨hr, hg, c, hm⟩
    · simp [hr, hg, hc]; omega
    · simp [hr, hg, hc]; omega
    · have hc (l : Lane) : r.message.isCompletionOf l = decide (c.lane = l) := by rw [hm]; rfl
      generalize c.lane = l at hc
      fin_cases l <;> simp [hr, hg, hc] <;> omega

theorem Link.outbound_length_le (h : k.classesOk) : k.outbound.length ≤ 16 := by
  obtain ⟨hr, hg, hc⟩ := h
  have hlength : k.outbound.length = k.replies + k.generals +
      (k.completionsOf 0 + k.completionsOf 1 + k.completionsOf 2 + k.completionsOf 3) := length_by_class k.outbound
  have h0 := hc 0
  have h1 := hc 1
  have h2 := hc 2
  have h3 := hc 3
  omega

end

/-- Settles O53: the queues of the link by what each command does to them, the held completions by the walk of the four
laws. -/
theorem everyStepKeepsLinkLaw : Obligations.EveryStepKeepsLinkLaw :=
  ⟨fun _ _ h hx => step_linkLaw h hx, fun _ h => Link.outbound_length_le h.1⟩

end Sys2Proof.Machine

/-! PROOFS. Every well-formed command answers a next state, and the access level follows SET ACCESS and the strap. -/
namespace Sys2Proof.Machine
section
variable {s : State} {r : Request} {kind : Nat} {f : Device → Request → Answer}

/-! ## The queue of waiting commands -/

@[simp] theorem State.request_pending : (s.request kind f).pending = s.pending := by
  unfold State.request
  split
  · split <;> rfl
  · rfl

@[simp] theorem State.selfTest_pending : s.selfTest.pending = s.pending := by
  unfold State.selfTest
  split
  · split
    · split <;> rfl
    · rfl
  · rfl

@[simp] theorem State.endSelfTest_pending (u : Option Nat) : (s.endSelfTest u).pending = s.pending := by
  unfold State.endSelfTest
  split <;> rfl

@[simp] theorem State.resetRequest_pending : s.resetRequest.pending = s.pending := by
  unfold State.resetRequest
  split
  · split
    · split <;> rfl
    · rfl
  · rfl

@[simp] theorem State.unknownKind_pending : s.unknownKind.pending = s.pending := by
  unfold State.unknownKind
  split
  · split <;> rfl
  · rfl

@[simp] theorem State.byteTimeEnd_pending (b : Byte) : (s.byteTimeEnd b).pending = s.pending := by
  unfold State.byteTimeEnd
  split <;> rfl

/-- A byte time that ends only where its command is enabled. -/
theorem exists_next_ite {p : Prop} [Decidable p] {t : State} (ht : t.pending = s.pending) :
    ∃ u, (if p then .next t else .next s : Host.Outcome State Fault Refusal) = .next u ∧ u.pending = s.pending := by
  split
  · exact ⟨t, rfl, ht⟩
  · exact ⟨s, rfl, rfl⟩

theorem exec_next_of_wellFormed {c : Instr} (h : c.wellFormed = true) :
    ∃ t, exec c s = .next t ∧ t.pending = s.pending := by
  cases c with
  | selfTestEnd u => exact ⟨_, if_pos h, State.endSelfTest_pending u⟩
  | frameReceived b => exact exists_next_ite (State.byteTimeEnd_pending b)
  | lengthFormatError b => exact exists_next_ite (State.byteTimeEnd_pending b)
  | recordSent b => exact exists_next_ite (State.byteTimeEnd_pending b)
  | _ => exact ⟨_, rfl, by simp [State.powerOn]⟩

theorem testUnitOk_eq_false {u : Nat} (h : (95 < u ∧ u < 100) ∨ 107 < u) : testUnitOk u = false := by
  unfold testUnitOk
  simp
  omega

/-! ## Requests refused before anything else is read -/

/-- A request whose handler refuses it. -/
theorem State.request_refused {c : RefusalCode} (h : s.takes kind r) (hf : f s.dev r = refuse s.dev c) :
    s.request kind f = { s with link := s.link.answered r (.refused c) false [] } := by
  rw [State.request_of_takes h, hf, State.answer_of_notes_nil rfl]
  rfl

/-- A request carried out at once in an event that issues no notice. -/
theorem State.request_done {d : Device} {data : List Byte} (h : s.takes kind r)
    (hf : f s.dev r = done (Ev.start d) data) :
    s.request kind f = { s with dev := d, link := s.link.answered r .done false data } := by
  rw [State.request_of_takes h, hf, State.answer_of_notes_nil rfl]
  rfl

theorem State.selfTest_refused {c : RefusalCode} (h : s.takes 0x0B r) (hc : selfTestRefusal s.dev r.body = some c) :
    s.selfTest = { s with link := s.link.answered r (.refused c) false [] } := by
  obtain ⟨ht, hk, -⟩ := h
  have hdirect : s.selfTest = s.answer r (refuse s.dev c) := by simp [State.selfTest, ht, hk, hc]
  rw [hdirect, State.answer_of_notes_nil rfl]
  rfl

/-! ## SET ACCESS and the privilege (R183) -/

/-- SET ACCESS grants OPERATOR always, ENGINEERING while the strap is high, and knows no other level. -/
theorem setAccessRequest_eq {d : Device} {v : Byte} (hb : r.body = [v]) : setAccessRequest d r =
    if v = 0 then done (Ev.start { d with handler := { d.handler with access := .operator } })
      [0, if d.strap = true then 1 else 0]
    else if v = 1 then
      if d.strap = true then done (Ev.start { d with handler := { d.handler with access := .engineering } }) [1, 1]
      else refuse d .privilege
    else refuse d .range := by
  have hf : field r.body 0 1 = v.toNat := by rw [hb, field_zero_one]
  unfold setAccessRequest
  dsimp only
  rw [hf]
  by_cases h0 : v = 0
  · subst h0
    cases d.strap <;> rfl
  · rw [if_neg h0]
    by_cases h1 : v = 1
    · subst h1
      cases d.strap with
      | false => simp
      | true => simp; rfl
    · rw [if_neg h1]
      have hn0 : v.toNat ≠ 0 := fun h => h0 (BitVec.eq_of_toNat_eq h)
      have hn1 : v.toNat ≠ 1 := fun h => h1 (BitVec.eq_of_toNat_eq h)
      split
      · contradiction
      · contradiction
      · rfl

theorem engineering_refused {k : Nat} (hk : k = 0x08 ∨ k = 0x09 ∨ k = 0x0A ∨ k = 0x0B) (ht : s.takes k r)
    (ha : s.dev.handler.access = .operator) :
    exec (commandOf k) s = .next { s with link := s.link.answered r (.refused .privilege) false [] } := by
  have hne : s.dev.handler.access ≠ .engineering := by rw [ha]; decide
  rcases hk with rfl | rfl | rfl | rfl
  · exact congrArg _ (State.request_refused ht (if_pos hne))
  · exact congrArg _ (State.request_refused ht (if_pos hne))
  · exact congrArg _ (State.request_refused ht (if_pos hne))
  · refine congrArg _ (State.selfTest_refused ht ?_)
    rw [selfTestRefusal, if_neg (by simp [ht.2.2]), if_pos hne]

end

/-- Settles O2: every arm of the dispatch answers a next state, but for SELF_TEST_END. -/
theorem wellFormedCommandsAnswerNext : Obligations.WellFormedCommandsAnswerNext :=
  ⟨fun _ _ h => exec_next_of_wellFormed h, fun u s h => if_neg (by
    rw [show (Instr.selfTestEnd (some u)).wellFormed = testUnitOk u from rfl, testUnitOk_eq_false h]
    decide)⟩

/-- Settles O43. -/
theorem accessLevelFollowsStrap : Obligations.AccessLevelFollowsStrap := by
  intro s
  refine ⟨rfl, rfl, fun r v ht hb => ?_, fun r k hk ht ha => engineering_refused hk ht ha⟩
  have heq := setAccessRequest_eq (d := s.dev) hb
  refine ⟨fun hv => ?_, fun hv hs => ?_, fun hv hs => ?_, fun h0 h1 => ?_⟩
  · exact congrArg _ (State.request_done ht (heq.trans (if_pos hv)))
  · rw [if_neg (by rw [hv]; decide), if_pos hv, if_pos hs] at heq
    exact congrArg _ (State.request_done ht heq)
  · rw [if_neg (by rw [hv]; decide), if_pos hv, if_neg (by simp [hs])] at heq
    exact congrArg _ (State.request_refused ht heq)
  · rw [if_neg h0, if_neg h1] at heq
    exact congrArg _ (State.request_refused ht heq)

end Sys2Proof.Machine

/-! PROOFS. LOAD PROFILE, SET NOTICES and PARTITION, and the memory self test. -/
namespace Sys2Proof.Machine
section
variable {s : State} {r : Request} {d : Device} {l : Lane}

/-! ## LOAD PROFILE (R109) -/

theorem loadProfileRequest_accepted {n : Fin 8} (hn : field r.body 0 1 = n.val) (hf : (readProfile r.body).filterSet ≤ 3)
    (hg : (readProfile r.body).geometryOk = true) : loadProfileRequest d r =
      ⟨Ev.start { d with handler := { d.handler with
          profiles := d.handler.profiles.set n (readProfile r.body).clamped } }, .done,
        decide ((readProfile r.body).clamped ≠ readProfile r.body), encodeProfile n.val (readProfile r.body).clamped⟩ := by
  have hrange : ¬(7 < field r.body 0 1 || 3 < (readProfile r.body).filterSet) = true := by
    have := n.isLt
    simp
    omega
  have hindex : Fin.ofNat 8 (field r.body 0 1) = n := by
    rw [hn]
    exact Fin.ext (Nat.mod_eq_of_lt n.isLt)
  unfold loadProfileRequest
  dsimp only
  rw [if_neg hrange, if_neg (by simp [hg])]
  simp only [hindex]
  simp only [hn]

theorem loadProfileRequest_range (h : 7 < field r.body 0 1 ∨ 3 < (readProfile r.body).filterSet ∨
    (readProfile r.body).geometryOk = false) : loadProfileRequest d r = refuse d .range := by
  unfold loadProfileRequest
  dsimp only
  split
  · rfl
  · rename_i hn
    rcases h with h | h | h
    · simp [h] at hn
    · simp [h] at hn
    · rw [if_pos (by simp [h])]

/-! ## SET NOTICES (R176) -/

/-- A body that gives the three settings in the order of their codes. -/
theorem readMask_in_order (a b c : Bool) :
    readMask [0x91, if a then 1 else 0, 0x92, if b then 1 else 0, 0x93, if c then 1 else 0] = some ⟨a, b, c⟩ := by
  cases a <;> cases b <;> cases c <;> rfl

theorem NoticeMask.byte_eq (a b c : Bool) :
    u8 (NoticeMask.byte ⟨a, b, c⟩) =
      [BitVec.ofNat 8 ((if a then 1 else 0) + (if b then 2 else 0) + (if c then 4 else 0))] := rfl

/-! ## PARTITION (R36) -/

theorem Device.allOff_iff : d.allOff = true ↔ ∀ l, (d.lane l).ingest.state = .off := by
  simp [Device.allOff]

/-- A body of four bytes gives each lane the byte of its number. -/
theorem quotaIn_four (q0 q1 q2 q3 : Byte) : quotaIn [q0, q1, q2, q3] 0 = q0.toNat ∧
    quotaIn [q0, q1, q2, q3] 1 = q1.toNat ∧ quotaIn [q0, q1, q2, q3] 2 = q2.toNat ∧
    quotaIn [q0, q1, q2, q3] 3 = q3.toNat := by
  refine ⟨?_, ?_, ?_, ?_⟩ <;> simp [quotaIn, field, beNat]

theorem quotasOk_four {q0 q1 q2 q3 : Byte} (hr : ∀ q ∈ [q0, q1, q2, q3], 8 ≤ q.toNat ∧ q.toNat ≤ 72)
    (hs : q0.toNat + q1.toNat + q2.toNat + q3.toNat ≤ 96) : quotasOk [q0, q1, q2, q3] = true := by
  obtain ⟨h0, h1, h2, h3⟩ := quotaIn_four q0 q1 q2 q3
  simp only [List.forall_mem_cons, List.not_mem_nil, false_implies, implies_true, and_true] at hr
  simp [quotasOk, List.finRange_succ, inRange, h0, h1, h2, h3, hr]
  omega

theorem partitionRequest_accepted (ha : d.handler.access = .engineering) (hoff : d.allOff = true)
    (hq : quotasOk r.body = true) :
    partitionRequest d r = done (Ev.start ((List.finRange 4).foldl (Device.setQuota r.body) d)) r.body := by
  unfold partitionRequest
  rw [if_neg (by simp [ha]), if_neg (by simp [hoff]), if_neg (by simp [hq])]

theorem partitionRequest_busy (ha : d.handler.access = .engineering) (hoff : d.allOff ≠ true) :
    partitionRequest d r = refuse d .busy := by
  unfold partitionRequest
  rw [if_neg (by simp [ha]), if_pos (by simpa using hoff)]

end

/-- Settles O45: what each of the three requests makes of its body. -/
theorem handlerTablesAreReplaced : Obligations.HandlerTablesAreReplaced := by
  intro s r
  refine ⟨fun ht n hn hf hg => ⟨_, ?_, rfl⟩, fun ht h => ?_, fun ht a b c hb => ?_, fun ht ha hoff q0 q1 q2 q3 hb hr hs => ?_,
    fun ht ha hoff => ?_⟩
  · show Host.Outcome.next (s.request 0x05 loadProfileRequest) = _
    rw [State.request_of_takes ht, loadProfileRequest_accepted hn hf hg, State.answer_of_notes_nil rfl]
    rfl
  · exact congrArg Host.Outcome.next (State.request_refused ht (loadProfileRequest_range h))
  · refine congrArg Host.Outcome.next (State.request_done ht ?_)
    rw [setNoticesRequest, hb, readMask_in_order]
    exact congrArg (done _) (NoticeMask.byte_eq a b c)
  · have hreq := partitionRequest_accepted (r := r) ha (Device.allOff_iff.2 hoff) (hb ▸ quotasOk_four hr hs)
    obtain ⟨ls, hd, hls⟩ := s.dev.setQuotas_eq r.body
    obtain ⟨h0, h1, h2, h3⟩ := quotaIn_four q0 q1 q2 q3
    rw [hd] at hreq
    refine ⟨_, congrArg Host.Outcome.next (State.request_done ht hreq), ?_, ?_, ?_, ?_, rfl, rfl, rfl, rfl, rfl, by rw [hb], rfl⟩
    · rw [← h0, ← hb]; exact hls 0
    · rw [← h1, ← hb]; exact hls 1
    · rw [← h2, ← hb]; exact hls 2
    · rw [← h3, ← hb]; exact hls 3
  · obtain ⟨l, hl⟩ := hoff
    exact congrArg Host.Outcome.next (State.request_refused ht (partitionRequest_busy ha fun h => hl (Device.allOff_iff.1 h l)))

section
variable {s : State} {r : Request} {d : Device} {l : Lane}

/-! ## The memory self test (R47, R48) -/

theorem Device.noFrames_iff : d.noFrames = true ↔ ∀ l, (d.lane l).channel.queue = [] := by
  simp [Device.noFrames, List.isEmpty_iff]

/-- Why a SELF TEST at ENGINEERING is refused: a lane is on, or a frame is queued. -/
theorem selfTestRefusal_eq (ht : s.takes 0x0B r) (ha : s.dev.handler.access = .engineering) :
    selfTestRefusal s.dev r.body = if s.dev.allOff && s.dev.noFrames then none else some .busy := by
  unfold selfTestRefusal
  rw [if_neg (by simp [ht.2.2]), if_neg (by simp [ha])]
  cases s.dev.allOff && s.dev.noFrames <;> rfl

theorem State.selfTest_starts (ht : s.takes 0x0B r) (hn : selfTestRefusal s.dev r.body = none) :
    s.selfTest = { s with
      dev := { s.dev with handler := { s.dev.handler with state := .selfTesting r.tag }, dram := s.dev.dram.forgetAll }
      link := s.link.dequeue } := by
  obtain ⟨htake, hk, -⟩ := ht
  simp [State.selfTest, htake, hk, hn]

/-- A running self test lets no request be taken. -/
theorem exec_request_of_none {c : Instr} (hc : isRequest c = true) (ht : s.takeable = none) : exec c s = .next s := by
  have hreq (kind : Nat) (f : Device → Request → Answer) : s.request kind f = s := by simp [State.request, ht]
  cases c with
  | selfTest => exact congrArg Host.Outcome.next (by simp [State.selfTest, ht])
  | reset => exact congrArg Host.Outcome.next (by simp [State.resetRequest, ht])
  | unknownKind => exact congrArg Host.Outcome.next (by simp [State.unknownKind, ht])
  | status | capabilities | inspectField | configureLane | loadProfile | setNotices | setAccess | partition
  | loadCoefficients | coefficientData | acquire | release | cue | transfer | amend | scan | probe | lineTest | stop =>
    exact congrArg Host.Outcome.next (hreq _ _)
  | _ => cases hc

theorem State.takeable_of_selfTesting {tag : Byte} (h : s.dev.handler.state = .selfTesting tag) : s.takeable = none := by
  simp [State.takeable, h]

/-- The end of a running self test: PASS without a failing unit, else FAIL with it. -/
theorem State.endSelfTest_of_selfTesting {tag : Byte} {u : Option Nat} (h : s.dev.handler.state = .selfTesting tag) :
    s.endSelfTest u = { s with
      dev := { s.dev with handler := { s.dev.handler with state := .free }, dram := s.dev.dram.forgetAll }
      link := s.link.join (.reply ⟨0x0B, tag, .done, false,
        [if u = none then 0 else 1, BitVec.ofNat 8 (u.getD 0)]⟩) } := by
  have hreply : selfTestReply tag u = ⟨0x0B, tag, .done, false,
      [if u = none then 0 else 1, BitVec.ofNat 8 (u.getD 0)]⟩ := by cases u <;> rfl
  unfold State.endSelfTest
  rw [h, ← hreply]

end

/-- Settles O47. -/
theorem selfTestRunsAndReplies : Obligations.SelfTestRunsAndReplies := by
  intro s
  refine ⟨fun r ht ha hoff hq => ⟨_, ?_, Dram.read_forgetAll _⟩, fun r ht ha hbusy => ?_, fun tag u hs => ⟨fun c hc => ?_, fun hu => ?_⟩⟩
  · have hn := selfTestRefusal_eq ht ha
    rw [Device.allOff_iff.2 hoff, Device.noFrames_iff.2 hq] at hn
    exact congrArg Host.Outcome.next (State.selfTest_starts ht hn)
  · refine congrArg Host.Outcome.next (State.selfTest_refused ht ?_)
    rw [selfTestRefusal_eq ht ha, if_neg]
    rw [Bool.and_eq_true, Device.allOff_iff, Device.noFrames_iff]
    rintro ⟨h1, h2⟩
    obtain ⟨l, hl | hl⟩ := hbusy
    · exact hl (h1 l)
    · exact hl (h2 l)
  · exact exec_request_of_none hc (State.takeable_of_selfTesting hs)
  · have hwf : (Instr.selfTestEnd u).wellFormed = true := by
      obtain rfl | ⟨n, rfl, hn⟩ := hu
      · rfl
      · show testUnitOk n = true
        simpa [testUnitOk] using hn
    exact ⟨_, (if_pos hwf).trans (congrArg Host.Outcome.next (State.endSelfTest_of_selfTesting hs)), Dram.read_forgetAll _⟩

end Sys2Proof.Machine

/-! SUPPORT. What a RESET request leaves (R179): the lanes, the frame buffers' contents and the link.
    PROOFS. Settles O5. -/
namespace Sys2Proof.Machine
section
variable {s : State} {d : Device} {m : Dram} {r : Request} {k : Link} {l : Lane}

/-- Forgetting the frame buffers leaves the samples of the field slots, which are the containers of region 0 (log entry
3). -/
theorem Dram.read_forgetBuffers_of_slots {a : Nat} (ha : dramRegion a = 0) : m.forgetBuffers.read a = m.read a := by
  have hcells : findCell a m.forgetBuffers.cells = findCell a m.cells :=
    findCell_filter m.cells fun _ => decide_eq_true ha
  have hgens : m.forgetBuffers.gens[dramRegion a] = m.gens[dramRegion a] := by
    simp only [ha]
    exact Vector.getElem_ofFn _
  rw [Dram.read, Dram.read, hcells, hgens]

theorem Device.afterReset_lane (d : Device) (l : Lane) : d.afterReset.lane l = (d.lane l).afterReset := by
  simp [Device.afterReset, Device.lane]

theorem Device.afterReset_slot (d : Device) (i : SlotId) : d.afterReset.slot i = Slot.empty := by
  simp [Device.afterReset, Device.slot]

/-- A record whose START is out is sent on as an orphan; one of which no byte is out yet is gone (log entry 9). -/
theorem InFlight.acrossReset_of_started {f : InFlight} (h : f.count ≠ 0) :
    f.acrossReset = some { f with orphan := true } :=
  if_neg h

theorem InFlight.acrossReset_of_unstarted {f : InFlight} (h : f.count = 0) : f.acrossReset = none :=
  if_pos h

/-- A RESET that is taken replaces both parts of the machine by their values after it. -/
theorem State.resetRequest_of_takes (h : s.takes 0x0C r) :
    s.resetRequest = { s with dev := s.dev.afterReset, link := s.link.afterReset r.tag } := by
  obtain ⟨htake, hkind, hlength⟩ := h
  simp only [State.resetRequest, htake, hkind, hlength, if_true]

/-- Settles O5: block by block, from the values that the parts of the machine take after the request. -/
theorem resetRequestTakesResetValues : Obligations.ResetRequestTakesResetValues := by
  intro s r h
  refine ⟨{ s with dev := s.dev.afterReset, link := s.link.afterReset r.tag },
    congrArg Host.Outcome.next (State.resetRequest_of_takes h), rfl, s.dev.afterReset_lane, s.dev.afterReset_slot,
    rfl, rfl, rfl, rfl, rfl, rfl, rfl, rfl, rfl, ?started, ?unstarted, ?idle,
    fun _ => Dram.read_forgetBuffers_of_slots⟩
  case started =>
    intro f hf hcount
    exact (congrArg (Option.bind · InFlight.acrossReset) hf).trans (InFlight.acrossReset_of_started hcount)
  case unstarted =>
    intro f hf hcount
    exact (congrArg (Option.bind · InFlight.acrossReset) hf).trans (InFlight.acrossReset_of_unstarted hcount)
  case idle => exact congrArg (Option.bind · InFlight.acrossReset)

end
end Sys2Proof.Machine

/-! SUPPORT. The finished frame in its buffer: the raster laid out line by line, and what a job's completion leaves of
    the DRAM, the lanes and the slots (R96, R120).
    PROOFS. Settles O29. -/
namespace Sys2Proof.Machine
section
variable {d : Device} {m : Dram} {j : Job} {b : Fin 2} {l : Lane} {k : SlotId}

/-! ## Rows of one length, laid end to end -/

theorem length_flatMap_range {α : Type} (n m : Nat) (g : Nat → Nat → α) :
    ((List.range n).flatMap fun y => (List.range m).map (g y)).length = n * m := by
  simp [List.length_flatMap]

theorem getElem?_flatMap_range {α : Type} {n m y w : Nat} (g : Nat → Nat → α) (hy : y < n) (hw : w < m) :
    ((List.range n).flatMap fun y => (List.range m).map (g y))[y * m + w]? = some (g y w) := by
  induction n with
  | zero => exact absurd hy (Nat.not_lt_zero y)
  | succ n ih =>
    rw [List.range_succ, List.flatMap_append]
    rcases Nat.lt_succ_iff_lt_or_eq.1 hy with hlt | rfl
    · have hin : y * m + w < n * m := calc
        y * m + w < y * m + m := Nat.add_lt_add_left hw _
        _ = (y + 1) * m := (Nat.succ_mul y m).symm
        _ ≤ n * m := Nat.mul_le_mul_right m hlt
      rw [List.getElem?_append_left (by rw [length_flatMap_range]; exact hin), ih hlt]
    · rw [List.getElem?_append_right (by rw [length_flatMap_range]; exact Nat.le_add_right _ _), length_flatMap_range,
        Nat.add_sub_cancel_left, List.flatMap_singleton, List.getElem?_map, List.getElem?_range hw, Option.map_some]

/-! ## The raster in its buffer -/

theorem rasterFrame_length (f : FilterSet) (s : Snapshot) (frame : Nat → Nat → Nat) :
    (rasterFrame f s frame).length = 1080 * 3840 :=
  length_flatMap_range 1080 3840 (rasterWord f s frame)

theorem rasterFrame_getElem? (f : FilterSet) (s : Snapshot) (frame : Nat → Nat → Nat) {y w : Nat} (hy : y < 1080)
    (hw : w < 3840) : (rasterFrame f s frame)[y * 3840 + w]? = some (rasterWord f s frame y w) :=
  getElem?_flatMap_range (rasterWord f s frame) hy hw

theorem bufferAddr_eq_add (l : Lane) (b : Fin 2) (y w : Nat) :
    bufferAddr l b y w = bufferAddr l b 0 0 + (y * 3840 + w) := by
  simp only [bufferAddr]; omega

theorem Device.renderJob_length_le (d : Device) (j : Job) : (d.renderJob j).length ≤ 1080 * 3840 := by
  unfold Device.renderJob
  split
  · exact (rasterFrame_length _ _ _).le
  · exact Nat.zero_le _

/-- A container that is none of the buffer's words keeps its contents through the write of a frame. -/
theorem Dram.read_writeRun_renderJob {a : Nat} (d : Device) (j : Job)
    (ha : ∀ y w, y < 1080 → w < 3840 → a ≠ bufferAddr l b y w) :
    (m.writeRun (bufferAddr l b 0 0) (d.renderJob j)).read a = m.read a := by
  refine m.read_writeRun_outside _ (Classical.byContradiction fun h => ?_)
  obtain ⟨hlow, hhigh⟩ := not_or.1 h
  have hlen := d.renderJob_length_le j
  refine ha ((a - bufferAddr l b 0 0) / 3840) ((a - bufferAddr l b 0 0) % 3840) (by omega) (by omega) ?_
  rw [bufferAddr_eq_add]
  omega

/-! ## What a job's completion leaves -/

theorem Device.completeJob_dram :
    (d.completeJob j b).dram = d.dram.writeRun (bufferAddr j.lane b 0 0) (d.renderJob j) :=
  Device.giveBack_dram ..

theorem Device.completeJob_engine : (d.completeJob j b).engine = ⟨none, d.engine.pointer⟩ :=
  Device.giveBack_engine ..

theorem Device.completeJob_lane : (d.completeJob j b).lane j.lane =
    { d.lane j.lane with
      channel := { (d.lane j.lane).channel with
        buffers := (d.lane j.lane).channel.buffers.set b .queued
        queue := (d.lane j.lane).channel.queue ++ [j.frame b] } } :=
  (Device.giveBack_lane ..).trans <| d.lane_modLane_self j.lane fun u =>
    { u with channel := { u.channel.setBuffer b .queued with queue := u.channel.queue ++ [j.frame b] } }

theorem Device.outside_completeJob : (d.completeJob j b).outside j.lane = d.outside j.lane :=
  (Device.outside_giveBack ..).trans <| d.outside_modLane j.lane fun u =>
    { u with channel := { u.channel.setBuffer b .queued with queue := u.channel.queue ++ [j.frame b] } }

theorem Device.completeJob_slot : (d.completeJob j b).slot k =
    if k ∈ j.slots ∧ (d.slot k).state = .held ∧ (d.slot k).refs - j.slots.count k = 0 then Slot.empty
    else { d.slot k with refs := (d.slot k).refs - j.slots.count k } :=
  (Device.giveBack_slot ..).trans
    (if_congr ((or_iff_right fun h => List.not_mem_nil h.1).trans Iff.rfl) rfl rfl)

/-- The slots whose last references the job held join the free list. -/
theorem Device.mem_freeList_completeJob (hk : k ∈ j.slots) (hheld : (d.slot k).state = .held)
    (hlast : (d.slot k).refs - j.slots.count k = 0) : k ∈ (d.completeJob j b).freeList := by
  unfold Device.completeJob
  rw [Device.giveBack_freeList]
  exact List.mem_append_right _ ((Device.mem_given ..).2 (.inr ⟨hk, hheld, hlast⟩))

theorem Ev.jobCompletion_of_running {e : Ev} (hj : e.dev.engine.running = some j) (hb : j.buffer = some b) :
    e.jobCompletion = e.modDev fun d => d.completeJob j b := by
  simp only [Ev.jobCompletion, hj, hb]

/-- Settles O29: the raster's layout gives the words, the law of a give-back the slots. -/
theorem jobCompletionQueuesFrame : Obligations.JobCompletionQueuesFrame := by
  intro s j b hj hb
  have hev : (Ev.start s.dev).jobCompletion = (Ev.start s.dev).modDev fun d => d.completeJob j b :=
    Ev.jobCompletion_of_running hj hb
  have hexec : exec .jobCompletion s = .next { s with dev := s.dev.completeJob j b } :=
    congrArg Host.Outcome.next ((State.event_of_notes_nil (by rw [hev]; rfl)).trans (by rw [hev]; rfl))
  obtain ⟨hlanes, hhandler, -⟩ := Device.sameOutside_of_outside (s.dev.outside_completeJob (j := j) (b := b))
  refine ⟨_, hexec, Device.completeJob_engine, Device.completeJob_lane, ?frame, ?beside, ?kept, ?untouched, ?freed,
    hlanes, hhandler, rfl, rfl⟩
  case frame =>
    intro f hf y w hy hw
    have hrender : s.dev.renderJob j =
        rasterFrame (s.dev.filterOf j.snapshot) j.snapshot (f.frameWord (j.items.mode.getD .adaptive)) := by
      simp only [Device.renderJob, hf]
    have hword := rasterFrame_getElem? (s.dev.filterOf j.snapshot) j.snapshot
      (f.frameWord (j.items.mode.getD .adaptive)) hy hw
    obtain ⟨hlt, hget⟩ := List.getElem?_eq_some_iff.1 hword
    rw [Device.completeJob_dram, hrender, bufferAddr_eq_add j.lane b y w, Dram.read_writeRun_inside _ _ _ _ hlt, hget]
  case beside =>
    intro a ha
    rw [Device.completeJob_dram]
    exact Dram.read_writeRun_renderJob s.dev j ha
  case kept =>
    intro k hk
    rw [Device.completeJob_slot, if_neg fun h => Nat.sub_ne_zero_of_lt hk h.2.2]
  case untouched =>
    intro k hk
    rw [Device.completeJob_slot, if_neg fun h => hk h.1, List.count_eq_zero_of_not_mem hk, Nat.sub_zero]
  case freed =>
    intro k hk hheld hlast
    have hzero : (s.dev.slot k).refs - j.slots.count k = 0 := by rw [hlast, Nat.sub_self]
    exact ⟨by rw [Device.completeJob_slot, if_pos ⟨hk, hheld, hzero⟩]; rfl,
      Device.mem_freeList_completeJob hk hheld hzero⟩

end
end Sys2Proof.Machine

/-! SUPPORT. What the running operation's work on a field adds to its lane: causes, jobs for that field, and the
references of those jobs. One lemma for each of its steps. -/
namespace Sys2Proof.Machine
section
variable {e e₁ e₂ : Ev} {l : Lane} {i : SlotId} {r : FieldRecord} {p : TransferParams} {op op' : Controller} {n : Nat}

/-- From `op` to `op'` no cause is lost, and the count of fields taken and the pending jobs are kept. -/
structure Controller.Gathers (op op' : Controller) : Prop where
  taken  : op'.counts.fieldsTaken = op.counts.fieldsTaken
  causes : ∀ c ∈ op.causes, c ∈ op'.causes
  jobs   : op'.jobs = op.jobs

/-- From `e` to `e'` no cause is lost, the count of fields taken is kept, and jobs for the field of sequence `n` join
the tail of the queue, each with its references. -/
structure Ev.Gathers (l : Lane) (n : Nat) (e e' : Ev) : Prop where
  taken  : (e'.dev.lane l).op.counts.fieldsTaken = (e.dev.lane l).op.counts.fieldsTaken
  causes : ∀ c ∈ (e.dev.lane l).op.causes, c ∈ (e'.dev.lane l).op.causes
  jobs   : ∃ new, (e'.dev.lane l).op.jobs = (e.dev.lane l).op.jobs ++ new ∧ (∀ j ∈ new, j.sequence = n) ∧
    ∀ k, (e'.dev.slot k).refs = (e.dev.slot k).refs + (new.flatMap Job.slots).count k

theorem mem_insertCause {c c' : Cause} {cs : List Cause} (h : c ∈ cs) : c ∈ insertCause c' cs := by
  unfold insertCause
  split
  · exact h
  · exact List.mem_append_left _ h

/-! ## A job's creation (R86) -/

/-- The job that `Device.createJob` creates. -/
def Device.newJob (d : Device) (l : Lane) (i : SlotId) (r : FieldRecord) (snap : Snapshot) (filmAware : Bool) :
    Job where
  lane := l
  sequence := r.sequence
  tag := (d.lane l).op.tag
  transferId := (d.lane l).op.transferId
  filmAware := filmAware
  state := .waitingNext
  fieldPrev2 := d.earlier l r.sequence 2
  fieldPrev := d.earlier l r.sequence 1
  fieldSelf := if i ∈ (d.lane l).window then some i else none
  fieldNext := none
  snapshot := snap
  buffer := none
  items := r.labelItems
    (r.discontinuity || r.gap || ((d.lane l).op.jobsCreated ≠ 0 && (d.lane l).op.pendingDiscontinuity))
    snap.windowClamped

/-- The controller with the job `j` for the field `r` at its queue's tail. -/
def Controller.addJob (op : Controller) (j : Job) (r : FieldRecord) : Controller :=
  { op with
    jobs := op.jobs ++ [j]
    jobsCreated := satAdd Config.maxJobsCreated op.jobsCreated 1
    pendingDiscontinuity := false
    first := some (op.first.getD r.ref)
    last := some r.ref
    lastJobIndex := r.index.or op.lastJobIndex }

theorem Device.createJob_eq (d : Device) (x : Snapshot) (b : Bool) :
    d.createJob l i r x b = ((d.newJob l i r x b).slots.foldl Device.takeRef d).modLane l fun u =>
      { u with op := u.op.addJob (d.newJob l i r x b) r } := rfl

theorem Device.createJob_op (d : Device) {x : Snapshot} {b : Bool} :
    ((d.createJob l i r x b).lane l).op = (d.lane l).op.addJob (d.newJob l i r x b) r := by
  have hlane : ((d.newJob l i r x b).slots.foldl Device.takeRef d).lane l = d.lane l :=
    foldl_keeps Device.takeRef (fun d => d.lane l) (fun _ _ => rfl) _ d
  rw [Device.createJob_eq, Device.lane_modLane_self, hlane]

theorem Device.createJob_slot (d : Device) {x : Snapshot} {b : Bool} {k : SlotId} :
    (d.createJob l i r x b).slot k =
      { d.slot k with refs := (d.slot k).refs + (d.newJob l i r x b).slots.count k } := by
  rw [Device.createJob_eq, Device.modLane_slot, Device.slot_takeRefs]

/-! ## The controller's own steps -/

theorem Controller.Gathers.recordEnd (op : Controller) (c : EndClass) (z : Option Cause) :
    op.Gathers (op.recordEnd c z) := by
  refine ⟨rfl, fun x hx => ?_, rfl⟩
  cases z with
  | none => exact hx
  | some z => exact mem_insertCause hx

theorem Controller.Gathers.observe (op : Controller) (c : Cause) : op.Gathers (op.observe c) := by
  refine ⟨by rw [Controller.observe_counts], fun x hx => ?_, Controller.observe_jobs⟩
  unfold Controller.observe
  split
  · exact hx
  · exact mem_insertCause hx

theorem Controller.Gathers.count (op : Controller) {f : Counts → Counts}
    (hf : ∀ c, (f c).fieldsTaken = c.fieldsTaken) : op.Gathers (op.count f) := by
  unfold Controller.count
  split
  · exact ⟨rfl, fun _ h => h, rfl⟩
  · exact ⟨hf _, fun _ h => h, rfl⟩

theorem Controller.Gathers.trans {op₁ op₂ op₃ : Controller} (h₁ : op₁.Gathers op₂) (h₂ : op₂.Gathers op₃) :
    op₁.Gathers op₃ :=
  ⟨h₂.taken.trans h₁.taken, fun c hc => h₂.causes c (h₁.causes c hc), h₂.jobs.trans h₁.jobs⟩

theorem Controller.Gathers.drop (op : Controller) : op.Gathers op.drop :=
  (Controller.Gathers.count op (f := Counts.addDrop) fun _ => rfl).trans (.observe _ _)

theorem Controller.Gathers.noJobFor (op : Controller) (r : FieldRecord) : op.Gathers (op.noJobFor r) := by
  unfold Controller.noJobFor
  split <;> exact ⟨rfl, fun _ h => h, rfl⟩

/-! ## The event's steps -/

theorem Ev.Gathers.refl (e : Ev) : e.Gathers l n e :=
  ⟨rfl, fun _ h => h, [], (List.append_nil _).symm, by simp, by simp⟩

theorem Ev.Gathers.trans (h₁ : e.Gathers l n e₁) (h₂ : e₁.Gathers l n e₂) : e.Gathers l n e₂ := by
  obtain ⟨new₁, hjobs₁, hseq₁, hrefs₁⟩ := h₁.jobs
  obtain ⟨new₂, hjobs₂, hseq₂, hrefs₂⟩ := h₂.jobs
  refine ⟨h₂.taken.trans h₁.taken, fun c hc => h₂.causes c (h₁.causes c hc), new₁ ++ new₂, ?_, ?_, fun k => ?_⟩
  · rw [hjobs₂, hjobs₁, List.append_assoc]
  · exact fun j hj => (List.mem_append.1 hj).elim (hseq₁ j) (hseq₂ j)
  · rw [hrefs₂, hrefs₁, List.flatMap_append, List.count_append, Nat.add_assoc]

theorem Ev.Gathers.modOp {f : Controller → Controller} (hf : (e.dev.lane l).op.Gathers (f (e.dev.lane l).op)) :
    e.Gathers l n (e.modOp l f) := by
  obtain ⟨htaken, hcauses, hjobs⟩ := hf
  have hop : ((e.modOp l f).dev.lane l).op = f (e.dev.lane l).op := by simp
  refine ⟨by rw [hop, htaken], by rw [hop]; exact hcauses, [], ?_, by simp, by simp⟩
  rw [hop, hjobs, List.append_nil]

/-- A change of the controller that leaves the causes, the counts and the jobs as they are. -/
theorem Ev.Gathers.modOp_beside {f : Controller → Controller}
    (hf : ∀ op : Controller, (f op).counts = op.counts ∧ (f op).causes = op.causes ∧ (f op).jobs = op.jobs) :
    e.Gathers l n (e.modOp l f) := by
  obtain ⟨hcounts, hcauses, hjobs⟩ := hf (e.dev.lane l).op
  exact .modOp ⟨by rw [hcounts], fun _ h => hcauses ▸ h, hjobs⟩

theorem Ev.Gathers.complete (e : Ev) (z : OpPart) : e.Gathers l n (e.complete l z) := by
  have hop : ((e.complete l z).dev.lane l).op =
      { (e.dev.lane l).op with
        state := .idle, snapshot := none, waitTimer := false, lastTag := (e.dev.lane l).op.markCompleted } := by
    simp [Ev.complete]
  refine ⟨by rw [hop], by rw [hop]; exact fun _ h => h, [], by rw [hop, List.append_nil], by simp,
    by simp [Ev.complete]⟩

theorem Ev.Gathers.endNow (e : Ev) (c : EndClass) (z : Option Cause) (x : OpPart) :
    e.Gathers l n (e.endNow l c z x) :=
  (Ev.Gathers.modOp (.recordEnd _ c z)).trans (.complete _ x)

theorem Ev.Gathers.settle (e : Ev) : e.Gathers l n (e.settle l) := by
  unfold Ev.settle
  split
  · split
    · exact .complete _ _
    · exact .refl _
  · exact .refl _

theorem Ev.Gathers.endTransfer (e : Ev) (c : EndClass) (z : Option Cause) : e.Gathers l n (e.endTransfer l c z) := by
  refine (Ev.Gathers.modOp ?_).trans (.settle _)
  split
  · exact ⟨rfl, (Controller.Gathers.recordEnd _ c z).causes, rfl⟩
  · exact ⟨rfl, fun _ h => h, rfl⟩

theorem Ev.Gathers.cueField (e : Ev) (m : CueMode) (t x : Nat) : e.Gathers l n (e.cueField l r m t x) := by
  have hcount : e.Gathers l n (e.modOp l fun op => { op with limitCount := op.limitCount + 1 }) :=
    .modOp_beside fun _ => ⟨rfl, rfl, rfl⟩
  refine hcount.trans ?_
  unfold Ev.cueField
  dsimp only
  split
  · split
    · exact .endNow _ _ _ _
    · exact .refl _
  · rename_i ix _
    have hindex (e : Ev) : e.Gathers l n (e.modOp l fun op => { op with previousIndex := some ix }) :=
      .modOp_beside fun _ => ⟨rfl, rfl, rfl⟩
    split
    · exact .endNow _ _ _ _
    · split
      · exact .endNow _ _ _ _
      · split
        · exact (hindex _).trans (.endNow _ _ _ _)
        · exact hindex _

theorem Ev.Gathers.scanField (e : Ev) (x : ScanParams) : e.Gathers l n (e.scanField l r x) := by
  have hcount : e.Gathers l n (e.modOp l fun op => { op with limitCount := op.limitCount + 1 }) :=
    .modOp_beside fun _ => ⟨rfl, rfl, rfl⟩
  refine hcount.trans ?_
  unfold Ev.scanField
  dsimp only
  split
  · exact .endNow _ _ _ _
  · split
    · exact .endNow _ _ _ _
    · exact .refl _

theorem Ev.Gathers.testEnd (e : Ev) : e.Gathers l n (e.testEnd l r) := by
  unfold Ev.testEnd
  dsimp only
  split
  · split
    · exact .endTransfer _ _ _
    · exact .refl _
  · exact .refl _

/-- A job's creation adds that job, and one reference for each slot it lists. -/
theorem Ev.Gathers.createJob (e : Ev) (x : Snapshot) (b : Bool) :
    e.Gathers l r.sequence (e.modDev fun d => d.createJob l i r x b) := by
  have hop : ((e.modDev fun d => d.createJob l i r x b).dev.lane l).op =
      (e.dev.lane l).op.addJob (e.dev.newJob l i r x b) r := e.dev.createJob_op
  refine ⟨by rw [hop]; rfl, by rw [hop]; exact fun _ h => h, [e.dev.newJob l i r x b], by rw [hop]; rfl, ?_,
    fun k => ?_⟩
  · exact fun j hj => List.mem_singleton.1 hj ▸ rfl
  · rw [List.flatMap_singleton]
    exact congrArg Slot.refs e.dev.createJob_slot

theorem Ev.Gathers.dueJob (e : Ev) : e.Gathers l r.sequence (e.dueJob l i r p) := by
  have hdrop : e.Gathers l r.sequence (e.modOp l fun op => { op.drop with pendingDiscontinuity := true }) :=
    .modOp ((Controller.Gathers.drop _).trans ⟨rfl, fun _ h => h, rfl⟩)
  unfold Ev.dueJob
  dsimp only
  split
  · split
    · exact .createJob _ _ _
    · exact .refl _
  · split
    · exact hdrop.trans (.endTransfer _ _ _)
    · exact hdrop

theorem Ev.Gathers.judgeRunning (e : Ev) (start : Bool) : e.Gathers l r.sequence (e.judgeRunning l i r p start) := by
  have hnone : e.Gathers l r.sequence (e.modOp l fun op => op.noJobFor r) := .modOp (.noJobFor _ r)
  have hskip : e.Gathers l r.sequence (e.modOp l fun op => (op.count Counts.addSkipped).noJobFor r) :=
    .modOp ((Controller.Gathers.count _ (f := Counts.addSkipped) fun _ => rfl).trans (.noJobFor _ r))
  unfold Ev.judgeRunning
  extract_lets past
  split
  · exact hnone.trans (.endTransfer _ _ _)
  · split
    · exact hnone.trans (.endTransfer _ _ _)
    · split
      · exact hskip.trans (.testEnd _)
      · exact (Ev.Gathers.dueJob e).trans (.testEnd _)

theorem Ev.Gathers.judgeArmed (e : Ev) : e.Gathers l r.sequence (e.judgeArmed l i r p) := by
  have hrun : e.Gathers l r.sequence (e.modOp l fun op => { op with state := .transfer .running p }) :=
    .modOp_beside fun _ => ⟨rfl, rfl, rfl⟩
  unfold Ev.judgeArmed
  dsimp only
  split
  · refine Ev.Gathers.trans ?_ (.judgeRunning _ true)
    split
    · exact hrun.trans (.modOp (.observe _ _))
    · exact hrun
  · exact .modOp (.noJobFor _ r)

theorem Ev.Gathers.operationField (e : Ev) : e.Gathers l r.sequence (e.operationField l i r) := by
  unfold Ev.operationField
  split
  · exact .refl _
  · exact .refl _
  · exact .refl _
  · exact .cueField _ _ _ _
  · exact .scanField _ _
  · exact .endNow _ _ _ _
  · exact .judgeArmed _
  · exact .judgeRunning _ false
  · exact .refl _

end
end Sys2Proof.Machine

/-! SUPPORT. The Operation Controller's event for a field, in its parts: the waiting job becomes READY, the field counts
for the running operation, the operation acts on it, and the chain ends (R85, R88, R131).
    PROOFS. Settles O23. -/
namespace Sys2Proof.Machine
section
variable {d : Device} {e : Ev} {l : Lane} {i k : SlotId} {r rn : FieldRecord} {p : TransferParams} {op : Controller}
  {s : State} {n : Option SlotId} {q : Nat} {j : Job}

/-! ## The field counts for the running operation -/

/-- The controller after the field `r` has counted for its operation (R131, R132). -/
def Controller.takes (op : Controller) (r : FieldRecord) : Controller :=
  if r.gap then ((op.count Counts.addTaken).nameField r).observe .timecodeGap
  else (op.count Counts.addTaken).nameField r

theorem Controller.nameField_counts : (op.nameField r).counts = op.counts := by
  unfold Controller.nameField; split <;> rfl
theorem Controller.nameField_state : (op.nameField r).state = op.state := by
  unfold Controller.nameField; split <;> rfl

theorem Controller.takes_jobs : (op.takes r).jobs = op.jobs := by
  unfold Controller.takes; split <;> simp [Controller.observe_jobs]

theorem Controller.takes_of_idle (h : op.state = .idle) : op.takes r = op := by
  simp [Controller.takes, Controller.count, Controller.nameField, Controller.observe, OpState.isIdle, h]

theorem Controller.takes_counts (h : op.state ≠ .idle) : (op.takes r).counts = op.counts.addTaken := by
  have hcount : (op.count Counts.addTaken).counts = op.counts.addTaken := by
    rw [Controller.count, if_neg fun hi => h (OpState.isIdle_iff.1 hi)]
  unfold Controller.takes
  split
  · rw [Controller.observe_counts, Controller.nameField_counts, hcount]
  · rw [Controller.nameField_counts, hcount]

theorem Controller.takes_observes_gap (h : op.state ≠ .idle) (hg : r.gap = true) :
    .timecodeGap ∈ (op.takes r).causes := by
  rw [Controller.takes, if_pos hg]
  exact Controller.mem_causes_observe (by rwa [Controller.nameField_state, Controller.count_state])

/-! ## The waiting job becomes READY -/

/-- Lane `l`'s operation with its waiting job, if it has one, READY with next field `n`. -/
def Device.readied (d : Device) (l : Lane) (n : Option SlotId) : Controller :=
  { (d.lane l).op with jobs := (d.lane l).op.jobs.map (d.readyJob n) }

@[simp] theorem Device.readied_state : (d.readied l n).state = (d.lane l).op.state := rfl
@[simp] theorem Device.readied_counts : (d.readied l n).counts = (d.lane l).op.counts := rfl
@[simp] theorem Device.readied_jobs : (d.readied l n).jobs = (d.lane l).op.jobs.map (d.readyJob n) := rfl

theorem Device.readyWaiting_of_none (h : d.waitingJob l = none) : d.readyWaiting l n = d := by
  unfold Device.readyWaiting
  rw [h]

/-- A queue in which no job waits is kept as the waiting job becomes READY. -/
theorem Device.map_readyJob_of_none (h : d.waitingJob l = none) :
    (d.lane l).op.jobs.map (d.readyJob n) = (d.lane l).op.jobs :=
  (List.map_congr_left fun j hj =>
    Device.readyJob_of_not_waiting (Device.noneWaiting_of_waitingJob h j hj)).trans (List.map_id _)

/-- Where no job waits the queue is left, and its map by `Device.readyJob` leaves it too. -/
theorem Device.readyWaiting_op (d : Device) (n : Option SlotId) : ((d.readyWaiting l n).lane l).op = d.readied l n := by
  cases hj : d.waitingJob l with
  | none =>
    rw [Device.readied, Device.map_readyJob_of_none hj, Device.readyWaiting_of_none hj]
  | some j =>
    have hlane : (n.toList.foldl Device.takeRef d).lane l = d.lane l :=
      foldl_keeps Device.takeRef (fun d => d.lane l) (fun _ _ => rfl) _ d
    rw [Device.readyWaiting_of_waits hj, Device.lane_modLane_self, hlane]
    rfl

theorem Device.waitingJob_spec (hj : d.waitingJob l = some j) : j ∈ (d.lane l).op.jobs ∧ j.state = .waitingNext :=
  ⟨List.mem_of_find?_eq_some hj,
    of_decide_eq_true (List.find?_some (p := fun j : Job => decide (j.state = .waitingNext)) hj)⟩

theorem Device.nextFor_of_waits (hj : d.waitingJob l = some j) :
    d.nextFor l i q = if q = j.sequence + 1 then some i else none := by
  rw [Device.nextFor, hj]

/-- The waiting job takes one reference on the field in slot `i` where that is its n+1 (R44, R88). -/
theorem Device.readyWaiting_refs (d : Device) [Decidable (k = i ∧ ∃ j, d.waitingJob l = some j ∧ q = j.sequence + 1)] :
    ((d.readyWaiting l (d.nextFor l i q)).slot k).refs = (d.slot k).refs +
      if k = i ∧ ∃ j, d.waitingJob l = some j ∧ q = j.sequence + 1 then 1 else 0 := by
  obtain hj | ⟨j, hj⟩ := Option.eq_none_or_eq_some (d.waitingJob l)
  · rw [Device.readyWaiting_of_none hj, if_neg fun ⟨_, _, hx, _⟩ => nomatch hj.symm.trans hx]
    rfl
  · rw [Device.readyWaiting_of_waits hj, Device.modLane_slot, Device.slot_takeRefs, Device.nextFor_of_waits hj]
    have hnext : (∃ j', d.waitingJob l = some j' ∧ q = j'.sequence + 1) ↔ q = j.sequence + 1 := by simp [hj]
    refine congrArg ((d.slot k).refs + ·) (Eq.trans ?_ (if_congr (and_congr_right fun _ => hnext) rfl rfl).symm)
    by_cases hk : k = i
    · subst hk
      by_cases hq : q = j.sequence + 1 <;> simp [hq]
    · have hk' : i ≠ k := Ne.symm hk
      by_cases hq : q = j.sequence + 1 <;> simp [hq, hk, hk']

/-! ## The mode of a job that becomes READY (R90, Table 38) -/

theorem decideMode_adaptive {b : Bool} {x : Option FieldRecord} {f : Bool} (h : f = false ∨ rn.tracker = .video) :
    decideMode f rn b x = .adaptive := by
  rcases h with rfl | h
  · rfl
  · have hnone : rn.expectedA = none := by rw [FieldRecord.expectedA, h]
    simp [decideMode, hnone]

theorem FieldRecord.expectedA_of_position {m : Nat} (ht : rn.tracker ≠ .video) (hp : rn.position = some m) :
    rn.expectedA = some (expectedPair rn.tracker m).1 := by
  cases hx : rn.tracker with
  | video => exact absurd hx ht
  | film22 => simp only [FieldRecord.expectedA, hx, hp]
  | film32 => simp only [FieldRecord.expectedA, hx, hp]

theorem decideMode_pair {b : Bool} {x : Option FieldRecord} (h : rn.expectedA = some true) :
    decideMode true rn b x = if b then .weavePrev else .adaptive := by
  simp [decideMode, h]

theorem decideMode_no_pair {b : Bool} {x : Option FieldRecord} (h : rn.expectedA = some false) :
    decideMode true rn b x =
      if ∃ rx, x = some rx ∧ rx.flagA = some true ∧ rx.tracker = rn.tracker then .weaveNext else .adaptive := by
  cases x <;> simp [decideMode, h]

theorem Device.readyJob_of_waiting (d : Device) (hj : j.state = .waitingNext)
    (hself : j.fieldSelf.bind d.record = some rn) :
    d.readyJob n j = { j with
      state := .ready, fieldNext := n
      items := { j.items with mode := some (decideMode j.filmAware rn j.fieldPrev.isSome (n.bind d.record)) } } := by
  unfold Device.readyJob
  rw [hj]
  simp only [hself]

/-- The job that becomes READY when the field in slot `i` is taken, with its mode. -/
theorem Device.readyJob_spec (hr : d.record i = some r) (hj : j.state = .waitingNext)
    (hself : j.fieldSelf.bind d.record = some rn) (hn : n = if r.sequence = j.sequence + 1 then some i else none) :
    ∃ m, d.readyJob n j = { j with state := .ready, fieldNext := n, items := { j.items with mode := some m } } ∧
      (j.filmAware = false ∨ rn.tracker = .video → m = .adaptive) ∧
      (∀ p, j.filmAware = true → rn.tracker ≠ .video → rn.position = some p →
        (expectedPair rn.tracker p).1 = true → m = if j.fieldPrev = none then .adaptive else .weavePrev) ∧
      ∀ p, j.filmAware = true → rn.tracker ≠ .video → rn.position = some p →
        (expectedPair rn.tracker p).1 = false →
        m = if r.sequence = j.sequence + 1 ∧ r.flagA = some true ∧ r.tracker = rn.tracker then .weaveNext
          else .adaptive := by
  refine ⟨_, d.readyJob_of_waiting hj hself, decideMode_adaptive, ?pair, ?noPair⟩
  case pair =>
    intro p haware htracker hpos hpair
    rw [haware, decideMode_pair (by rw [FieldRecord.expectedA_of_position htracker hpos, hpair])]
    cases j.fieldPrev <;> simp
  case noPair =>
    intro p haware htracker hpos hpair
    rw [haware, decideMode_no_pair (by rw [FieldRecord.expectedA_of_position htracker hpos, hpair])]
    refine if_congr ?_ rfl rfl
    rw [hn]
    by_cases hq : r.sequence = j.sequence + 1 <;> simp [hq, hr]

/-! ## The whole event -/

/-- The event once the waiting job is READY and the field has counted: the running operation acts next. -/
def Ev.counted (e : Ev) (l : Lane) (i : SlotId) (r : FieldRecord) : Ev :=
  (e.readyWaiting l (e.dev.nextFor l i r.sequence)).modOp l fun op => op.takes r

/-- The work of the Operation Controller on the field, before the chain ends. -/
def Ev.fieldWork (e : Ev) (l : Lane) (i : SlotId) (r : FieldRecord) : Ev := (e.counted l i r).operationField l i r

theorem Ev.takeField_eq (h : e.dev.record i = some r) :
    e.takeField l i = (e.fieldWork l i r).setChain l none := by
  rw [Ev.takeField, h]
  rfl

theorem Ev.counted_op : ((e.counted l i r).dev.lane l).op =
    (e.dev.readied l (e.dev.nextFor l i r.sequence)).takes r := by
  rw [Ev.counted, Ev.modOp_dev, Device.lane_modLane_self]
  exact congrArg (Controller.takes · r) (e.dev.readyWaiting_op _)

theorem Ev.counted_jobs : ((e.counted l i r).dev.lane l).op.jobs =
    (e.dev.lane l).op.jobs.map (e.dev.readyJob (e.dev.nextFor l i r.sequence)) := by
  rw [Ev.counted_op, Controller.takes_jobs, Device.readied_jobs]

theorem Ev.counted_slot :
    (e.counted l i r).dev.slot k = (e.dev.readyWaiting l (e.dev.nextFor l i r.sequence)).slot k := by
  rw [Ev.counted, Ev.modOp_dev, Device.modLane_slot]
  rfl

theorem Ev.offOp_counted : (e.counted l i r).dev.offOp l = e.dev.offOp l :=
  (Ev.offOp_modOp _).trans (Ev.offOp_readyWaiting _)

theorem State.event_lane (s : State) (f : Ev → Ev) (m : Lane) :
    ∃ h, (s.event f).dev.lane m = { (f (Ev.start s.dev)).dev.lane m with
      op := { ((f (Ev.start s.dev)).dev.lane m).op with held := h } } :=
  Ev.commit_lane (f (Ev.start s.dev)) s.link m

theorem exec_fieldTaken (hc : (s.dev.lane l).chain = some ⟨.controller, i⟩) :
    exec (.fieldTaken l) s = .next (s.event fun e => e.takeField l i) := by
  refine congrArg Host.Outcome.next (State.event_congr ?_)
  have hc' : ((Ev.start s.dev).dev.lane l).chain = some ⟨.controller, i⟩ := hc
  simp only [Ev.chainStage, Ev.chainStep, hc', if_true]

section
variable (hr : s.dev.record i = some r)
include hr

theorem State.fieldTaken_eq :
    s.event (fun e => e.takeField l i) = s.event fun e => (e.fieldWork l i r).setChain l none :=
  State.event_congr (Ev.takeField_eq hr)

theorem State.fieldTaken_beside : (s.event fun e => e.takeField l i).dev.beside =
    (((Ev.start s.dev).fieldWork l i r).setChain l none).dev.beside := by
  rw [State.fieldTaken_eq hr]; exact s.event_beside _

theorem State.fieldTaken_slot :
    (s.event fun e => e.takeField l i).dev.slot k = ((Ev.start s.dev).fieldWork l i r).dev.slot k := by
  rw [Device.slot_of_beside (State.fieldTaken_beside hr)]
  simp [Ev.setChain]

end

theorem Ev.offOp_fieldWork : (e.fieldWork l i r).dev.offOp l = e.dev.offOp l :=
  Ev.offOp_operationField.trans Ev.offOp_counted

/-- The lane after the event: its chain has ended, its operation is as the work left it, but for a completion that the
link holds back (R134), and the rest is as it was. -/
theorem State.fieldTaken_lane (hr : s.dev.record i = some r) : ∃ h,
    (s.event fun e => e.takeField l i).dev.lane l = { s.dev.lane l with
      chain := none
      op := { (((Ev.start s.dev).fieldWork l i r).dev.lane l).op with held := h } } := by
  have hoff : ((Ev.start s.dev).fieldWork l i r).dev.offOp l = s.dev.offOp l := Ev.offOp_fieldWork
  have hwork : (((Ev.start s.dev).fieldWork l i r).setChain l none).dev.lane l = { s.dev.lane l with
      chain := none, op := (((Ev.start s.dev).fieldWork l i r).dev.lane l).op } := by
    rw [Ev.setChain, Ev.modLane_dev, Device.lane_modLane_self, Device.lane_of_offOp hoff]
  obtain ⟨h, hlane⟩ := s.event_lane (fun e => (e.fieldWork l i r).setChain l none) l
  rw [State.fieldTaken_eq hr, hlane, hwork]
  generalize (((Ev.start s.dev).fieldWork l i r).dev.lane l).op = op'
  exact ⟨h, rfl⟩

/-- What the running operation adds to the lane, seen from the counted field. -/
theorem Ev.fieldWork_gathers : (e.counted l i r).Gathers l r.sequence (e.fieldWork l i r) :=
  .operationField _

theorem Ev.fieldWork_of_idle (h : (e.dev.lane l).op.state = .idle) : e.fieldWork l i r = e.counted l i r := by
  have hstate : ((e.counted l i r).dev.lane l).op.state = .idle := by
    rw [Ev.counted_op, Controller.takes_of_idle (by rwa [Device.readied_state]), Device.readied_state, h]
  rw [Ev.fieldWork, Ev.operationField, hstate]

theorem Ev.counted_fieldsTaken (h : (e.dev.lane l).op.state ≠ .idle) :
    ((e.counted l i r).dev.lane l).op.counts.fieldsTaken =
      min 4294967295 ((e.dev.lane l).op.counts.fieldsTaken + 1) := by
  rw [Ev.counted_op, Controller.takes_counts (by rwa [Device.readied_state]), Device.readied_counts]
  rfl

/-- Settles O23: the counted field, what the operation adds to it, and the parts that neither touches. -/
theorem fieldTakenEndsChain : Obligations.FieldTakenEndsChain := by
  intro s l i r hc hr
  have hexec := exec_fieldTaken hc
  obtain ⟨hside, hpending⟩ := exec_outside rfl hexec
  obtain ⟨hlanes, hhandler, -⟩ := Device.sameOutside_of_outside hside
  obtain ⟨held, hlane⟩ := State.fieldTaken_lane (s := s) (l := l) hr
  have hop := congrArg LaneUnit.op hlane
  have hbeside := State.fieldTaken_beside (s := s) (l := l) hr
  have hoff : ((Ev.start s.dev).fieldWork l i r).dev.offOp l = s.dev.offOp l := Ev.offOp_fieldWork
  obtain ⟨htaken, hcauses, new, hnew, hseq, hrefs⟩ :=
    Ev.fieldWork_gathers (e := Ev.start s.dev) (l := l) (i := i) (r := r)
  have hjobs : ((s.event fun e => e.takeField l i).dev.lane l).op.jobs =
      (s.dev.lane l).op.jobs.map (s.dev.readyJob (s.dev.nextFor l i r.sequence)) ++ new := by
    rw [hop]
    exact hnew.trans (congrArg (· ++ new) Ev.counted_jobs)
  have hslot (k : SlotId) : ((s.event fun e => e.takeField l i).dev.slot k).refs =
      ((s.dev.readyWaiting l (s.dev.nextFor l i r.sequence)).slot k).refs + (new.flatMap Job.slots).count k := by
    rw [State.fieldTaken_slot hr, hrefs, Ev.counted_slot]
    rfl
  refine ⟨_, hexec, by rw [hlane], ?waiting, ?idle, ?running, ?record, ?freeList, ?dram, ?engine, hlanes, by rw [hlane],
    by rw [hlane], by rw [hlane], by rw [hlane], by rw [hlane], hhandler, hpending, ?refs, ?ready⟩
  case waiting =>
    intro j hj hw
    rw [hjobs] at hj
    rcases List.mem_append.1 hj with hold | hadded
    · obtain ⟨j', -, rfl⟩ := List.mem_map.1 hold
      exact absurd hw (s.dev.readyJob_state _ j')
    · exact hseq j hadded
  case idle =>
    intro hidle
    have hwork : (Ev.start s.dev).fieldWork l i r = (Ev.start s.dev).counted l i r := Ev.fieldWork_of_idle hidle
    refine ⟨?_, ?_⟩
    · rw [hop, hwork, Ev.counted_op, Controller.takes_of_idle (by exact hidle)]
      rfl
    · rw [State.fieldTaken_eq hr, State.event_of_notes_nil (by rw [hwork]; rfl)]
  case running =>
    intro hrun
    rw [hop]
    exact ⟨htaken.trans (Ev.counted_fieldsTaken hrun), fun hgap => hcauses _ (by
      rw [Ev.counted_op]; exact Controller.takes_observes_gap hrun hgap)⟩
  case record =>
    intro k
    rw [Device.record, State.fieldTaken_slot hr]
    exact Device.record_of_offOp hoff k
  case freeList =>
    rw [Device.freeList_of_beside hbeside, Ev.setChain, Ev.modLane_dev, Device.modLane_freeList,
      Device.freeList_of_offOp hoff]
  case dram =>
    rw [Device.dram_of_beside hbeside, Ev.setChain, Ev.modLane_dev, Device.modLane_dram,
      Device.dram_of_offOp hoff]
  case engine =>
    rw [Device.engine_of_beside hbeside, Ev.setChain, Ev.modLane_dev, Device.modLane_engine,
      Device.engine_of_offOp hoff]
  case refs =>
    intro hlen k
    rw [hjobs, List.length_append, List.length_map] at hlen
    obtain rfl : new = [] := List.length_eq_zero_iff.1 (by omega)
    rw [hslot, Device.readyWaiting_refs]
    rfl
  case ready =>
    intro rn j hj hself
    obtain ⟨hmem, hwaits⟩ := Device.waitingJob_spec hj
    have hnext := Device.nextFor_of_waits (i := i) (q := r.sequence) hj
    obtain ⟨m, hready, hmode⟩ := Device.readyJob_spec hr hwaits hself hnext
    refine ⟨s.dev.readyJob (s.dev.nextFor l i r.sequence) j, m, ?_, by rw [hready, hnext], fun hq => ?_, hmode⟩
    · rw [hjobs]
      exact List.mem_append_left _ (List.mem_map_of_mem hmem)
    · rw [hslot, Device.readyWaiting_refs, if_pos ⟨rfl, j, hj, hq⟩]
      exact Nat.le_add_right _ _

end
end Sys2Proof.Machine

/-! SUPPORT. A field within a transfer's marks: the job made for it, the test of the end behind it, and the controller
that the start of an ARMED transfer leaves (R146, R147, R148).
    PROOFS. Settles O25. -/
namespace Sys2Proof.Machine
section
variable {d d' : Device} {e : Ev} {l : Lane} {i k : SlotId} {r : FieldRecord} {p : TransferParams} {op : Controller}
  {snap : Snapshot} {sub : SubState} {q m : Nat} {n : Option SlotId}

/-! ## What stands off the operation -/

theorem Device.earlier_of_offOp (h : d'.offOp l = d.offOp l) : d'.earlier l q m = d.earlier l q m := by
  have hseq (i : SlotId) : (d'.slot i).sequence = (d.slot i).sequence := by rw [Device.slot_of_offOp h]
  have hwindow : (d'.lane l).window = (d.lane l).window := by rw [Device.lane_of_offOp h]
  simp only [Device.earlier, Device.member, hwindow, hseq]

/-! ## A field within the marks -/

/-- A transfer takes a field that is not its ending GAP field, not past its end and not a held one to skip: a job is due
for it, and then the end is tested (R147). -/
theorem Ev.judgeRunning_of_within {start : Bool} (hgap : ¬(p.stopOnGap = true ∧ r.gap = true ∧ start = false))
    (hskip : ¬(p.skipHeld = true ∧ r.held = true))
    (hpast : ∀ e ix, p.ending = .atIndex e → r.index = some ix → ix ≤ e) :
    e.judgeRunning l i r p start = (e.dueJob l i r p).testEnd l r := by
  unfold Ev.judgeRunning
  extract_lets past
  have hpast' : past = false := by
    cases he : p.ending with
    | never => simp [past, he]
    | count _ => simp [past, he]
    | atIndex last =>
      cases hi : r.index with
      | none => simp [past, he, hi]
      | some ix => simpa [past, he, hi] using hpast last ix he hi
  rw [if_neg (by simpa [and_assoc] using hgap), hpast', if_neg Bool.false_ne_true, if_neg (by simpa using hskip)]

theorem Ev.dueJob_of_room (hroom : (e.dev.lane l).op.jobs.length < 32)
    (hsnap : (e.dev.lane l).op.snapshot = some snap) :
    e.dueJob l i r p = e.modDev fun d => d.createJob l i r snap p.filmAware := by
  have hroom' : (e.dev.lane l).op.jobs.length < Config.maxJobs := hroom
  simp only [Ev.dueJob, if_pos hroom', hsnap]

/-- With a job pending the transfer that reaches its end drains. -/
theorem Ev.testEnd_of_jobs (hs : (e.dev.lane l).op.state = .transfer .running p) (hj : (e.dev.lane l).op.jobs ≠ []) :
    e.testEnd l r = if p.ending.reached (e.dev.lane l).op.jobsCreated r.index then
      e.modOp l fun op => op.drain .normal (some .endReached) p else e := by
  have hop : ((e.modOp l fun op => op.drain .normal (some .endReached) p).dev.lane l).op =
      (e.dev.lane l).op.drain .normal (some .endReached) p := by simp
  have hdrained : (e.modOp l fun op => op.drain .normal (some .endReached) p).dev.drained l = false := by
    have hjobs : ((e.dev.lane l).op.drain .normal (some .endReached) p).jobs.isEmpty = false :=
      List.isEmpty_eq_false_iff.2 hj
    rw [Device.drained, hop, hjobs]
    rfl
  simp only [Ev.testEnd, hs]
  rw [Ev.endTransfer_eq hs, Ev.settle_of_draining (p := p) (by rw [hop]; rfl), hdrained, if_neg Bool.false_ne_true]

/-! ## The start of an ARMED transfer (R146) -/

/-- The controller of a transfer that runs from this field on. -/
def Controller.started (op : Controller) (p : TransferParams) (late : Bool) : Controller :=
  if late then Controller.observe { op with state := .transfer .running p } .startLate
  else { op with state := .transfer .running p }

theorem Controller.started_eq (op : Controller) (p : TransferParams) (late : Bool) :
    ∃ cs, op.started p late = { op with state := .transfer .running p, causes := cs } ∧
      (late = true → .startLate ∈ cs) := by
  cases late with
  | false => exact ⟨op.causes, rfl, nofun⟩
  | true =>
    refine ⟨insertCause .startLate op.causes, rfl, fun _ => ?_⟩
    unfold insertCause
    split
    · assumption
    · simp

theorem Ev.judgeArmed_of_start (h : p.start.startsAt r.index = true) :
    e.judgeArmed l i r p = (e.modOp l fun op => op.started p (p.start.late r.index)).judgeRunning l i r p true := by
  unfold Ev.judgeArmed
  rw [if_pos h]
  cases p.start.late r.index with
  | false => rfl
  | true =>
    refine congrArg (Ev.judgeRunning · l i r p true) ?_
    simp [Ev.modOp, Ev.modLane, Device.modLane, Controller.started]

theorem Controller.takes_of_transfer (h : op.state = .transfer sub p) :
    ∃ z cs, op.takes r = { op with counts := z, causes := cs } := by
  have hcount : op.count Counts.addTaken = { op with counts := op.counts.addTaken } := by
    rw [Controller.count, h]; rfl
  have hname : (op.count Counts.addTaken).nameField r = { op with counts := op.counts.addTaken } := by
    rw [hcount, Controller.nameField, h]
  unfold Controller.takes
  rw [hname]
  split
  · exact ⟨op.counts.addTaken, insertCause .timecodeGap op.causes, by rw [Controller.observe, h]; rfl⟩
  · exact ⟨op.counts.addTaken, op.causes, rfl⟩

/-! ## The whole event -/

/-- The controller of a running transfer that has been given the job `j` for the field `r`: an end that the field
reaches makes it drain (R148). -/
def Controller.given (op : Controller) (j : Job) (r : FieldRecord) (p : TransferParams) : Controller :=
  if p.ending.reached (min 16777215 (op.jobsCreated + 1)) r.index then
    (op.addJob j r).drain .normal (some .endReached) p
  else op.addJob j r

theorem Controller.given_jobs {j : Job} : (op.given j r p).jobs = op.jobs ++ [j] := by
  unfold Controller.given; split <;> rfl
theorem Controller.given_jobsCreated {j : Job} : (op.given j r p).jobsCreated = min 16777215 (op.jobsCreated + 1) := by
  unfold Controller.given; split <;> rfl
theorem Controller.given_first {j : Job} : (op.given j r p).first = some (op.first.getD r.ref) := by
  unfold Controller.given; split <;> rfl
theorem Controller.given_last {j : Job} : (op.given j r p).last = some r.ref := by
  unfold Controller.given; split <;> rfl
theorem Controller.mem_causes_given {j : Job} {c : Cause} (h : c ∈ op.causes) : c ∈ (op.given j r p).causes := by
  unfold Controller.given
  split
  · exact (Controller.Gathers.recordEnd (op.addJob j r) .normal (some .endReached)).causes c h
  · exact h

theorem Controller.given_of_reached {j : Job}
    (h : p.ending.reached (min 16777215 (op.jobsCreated + 1)) r.index = true) :
    (op.given j r p).state = .transfer .draining p ∧ (op.given j r p).endCause = some .endReached ∧
      (op.given j r p).endClass = some .normal := by
  rw [Controller.given, if_pos h]
  exact ⟨rfl, rfl, rfl⟩

theorem Controller.given_of_not_reached {j : Job}
    (h : p.ending.reached (min 16777215 (op.jobsCreated + 1)) r.index = false) :
    (op.given j r p).state = op.state := by
  rw [Controller.given, if_neg (ne_true_of_eq_false h)]
  rfl

/-- The job depends on the lane's window, on the slots' sequences and on what the operation has had since its start. -/
theorem Device.newJob_congr {b : Bool} {st : OpState} {z : Counts} {cs : List Cause} {js : List Job}
    (hoff : d'.offOp l = d.offOp l)
    (hop : (d'.lane l).op = { (d.lane l).op with state := st, counts := z, causes := cs, jobs := js }) :
    d'.newJob l i r snap b = d.newJob l i r snap b := by
  have hwindow : (d'.lane l).window = (d.lane l).window := by rw [Device.lane_of_offOp hoff]
  simp only [Device.newJob, Device.earlier_of_offOp hoff, hwindow, hop]

/-- Where a job is due and there is room for it, the controller is given the job. -/
theorem Ev.dueJob_testEnd_op (hs : (e.dev.lane l).op.state = .transfer .running p)
    (hsnap : (e.dev.lane l).op.snapshot = some snap) (hroom : (e.dev.lane l).op.jobs.length < 32) :
    (((e.dueJob l i r p).testEnd l r).dev.lane l).op =
      (e.dev.lane l).op.given (e.dev.newJob l i r snap p.filmAware) r p := by
  have hop : ((e.modDev fun d => d.createJob l i r snap p.filmAware).dev.lane l).op =
      (e.dev.lane l).op.addJob (e.dev.newJob l i r snap p.filmAware) r := e.dev.createJob_op
  rw [Ev.dueJob_of_room hroom hsnap,
    Ev.testEnd_of_jobs (p := p) (by rw [hop]; exact hs) (by rw [hop]; simp [Controller.addJob]), hop, Controller.given]
  refine (apply_ite (fun e : Ev => (e.dev.lane l).op) _ _ _).trans (if_congr Iff.rfl ?_ hop)
  rw [Ev.modOp_dev, Device.lane_modLane_self]
  exact congrArg (Controller.drain · .normal (some .endReached) p) hop

/-- Of a transfer that runs, or starts at this field: where the field is within its marks, the controller is given the
job. -/
theorem Ev.operationField_of_within (hs : (e.dev.lane l).op.state = .transfer sub p)
    (hsnap : (e.dev.lane l).op.snapshot = some snap) (hroom : (e.dev.lane l).op.jobs.length < 32)
    (hsub : (sub = .running ∧ ¬(p.stopOnGap = true ∧ r.gap = true)) ∨ (sub = .armed ∧ p.start.startsAt r.index = true))
    (hskip : ¬(p.skipHeld = true ∧ r.held = true))
    (hpast : ∀ e ix, p.ending = .atIndex e → r.index = some ix → ix ≤ e) :
    ∃ cs, ((e.operationField l i r).dev.lane l).op =
        ({ (e.dev.lane l).op with state := .transfer .running p, causes := cs } : Controller).given
          (e.dev.newJob l i r snap p.filmAware) r p ∧
      (sub = .armed → p.start.late r.index = true → .startLate ∈ cs) := by
  rcases hsub with ⟨rfl, hgap⟩ | ⟨rfl, hstart⟩
  · refine ⟨(e.dev.lane l).op.causes, ?_, nofun⟩
    have hwork : e.operationField l i r = (e.dueJob l i r p).testEnd l r := by
      simp only [Ev.operationField, hs]
      exact Ev.judgeRunning_of_within (fun h => hgap ⟨h.1, h.2.1⟩) hskip hpast
    rw [hwork, Ev.dueJob_testEnd_op hs hsnap hroom, ← hs]
  · obtain ⟨cs, hcs, hlate⟩ := (e.dev.lane l).op.started_eq p (p.start.late r.index)
    have hop : ((e.modOp l fun op => op.started p (p.start.late r.index)).dev.lane l).op =
        { (e.dev.lane l).op with state := .transfer .running p, causes := cs } := by
      rw [Ev.modOp_dev, Device.lane_modLane_self]; exact hcs
    have hwork : e.operationField l i r =
        (((e.modOp l fun op => op.started p (p.start.late r.index))).dueJob l i r p).testEnd l r := by
      simp only [Ev.operationField, hs]
      rw [Ev.judgeArmed_of_start hstart]
      exact Ev.judgeRunning_of_within (by simp) hskip hpast
    refine ⟨cs, ?_, fun _ => hlate⟩
    rw [hwork, Ev.dueJob_testEnd_op (by rw [hop]) (by rw [hop]; exact hsnap) (by rw [hop]; exact hroom),
      Device.newJob_congr (Ev.offOp_modOp _) hop, hop]

/-- The operation of lane `l` once its waiting job is READY, the field `r` has counted and the new job is given: what of
it the new job and the transfer's end depend on is as before the event. -/
theorem Device.fieldWork_of_within (hs : (d.lane l).op.state = .transfer sub p)
    (hsnap : (d.lane l).op.snapshot = some snap) (hroom : (d.lane l).op.jobs.length < 32)
    (hsub : (sub = .running ∧ ¬(p.stopOnGap = true ∧ r.gap = true)) ∨ (sub = .armed ∧ p.start.startsAt r.index = true))
    (hskip : ¬(p.skipHeld = true ∧ r.held = true))
    (hpast : ∀ e ix, p.ending = .atIndex e → r.index = some ix → ix ≤ e) :
    ∃ z cs, (((Ev.start d).fieldWork l i r).dev.lane l).op =
        ({ d.readied l (d.nextFor l i r.sequence) with
            state := .transfer .running p, counts := z, causes := cs } : Controller).given
          (d.newJob l i r snap p.filmAware) r p ∧
      (sub = .armed → p.start.late r.index = true → .startLate ∈ cs) := by
  obtain ⟨z, cs, htakes⟩ := Controller.takes_of_transfer (r := r) (op := d.readied l (d.nextFor l i r.sequence)) hs
  have hop : (((Ev.start d).counted l i r).dev.lane l).op =
      { d.readied l (d.nextFor l i r.sequence) with counts := z, causes := cs } := Ev.counted_op.trans htakes
  obtain ⟨cs', hwork, hlate⟩ := Ev.operationField_of_within (e := (Ev.start d).counted l i r) (i := i) (snap := snap)
    (by rw [hop]; exact hs) (by rw [hop]; exact hsnap) (by rw [hop]; simpa using hroom) hsub hskip hpast
  refine ⟨z, cs', ?_, hlate⟩
  rw [Ev.fieldWork, hwork, Device.newJob_congr Ev.offOp_counted hop, hop]
  rfl

theorem TransferStart.startsAt_iff {x : TransferStart} {ix : Option Nat} :
    x.startsAt ix = true ↔ ∀ a, x = .atIndex a → ∃ y, ix = some y ∧ a ≤ y := by
  cases x <;> cases ix <;> simp [TransferStart.startsAt]

/-- Settles O25: the controller that the field leaves, and the references that its one new job adds. -/
theorem transferGivesFieldJob : Obligations.TransferGivesFieldJob := by
  intro s l i r sub p snap op hc hr hop hs hsnap hroom hwin hsub hskip hpast
  subst hop
  obtain ⟨z, cs, hwork, hlate⟩ := Device.fieldWork_of_within (i := i) hs hsnap hroom
    (hsub.imp_right fun ⟨h, hstart⟩ => ⟨h, TransferStart.startsAt_iff.2 hstart⟩) hskip hpast
  obtain ⟨held, hlane⟩ := State.fieldTaken_lane (s := s) (l := l) hr
  have hop := congrArg LaneUnit.op hlane
  rw [hwork] at hop
  obtain ⟨-, -, new, hnew, -, hrefs⟩ := Ev.fieldWork_gathers (e := Ev.start s.dev) (l := l) (i := i) (r := r)
  have hnew' : new = [s.dev.newJob l i r snap p.filmAware] := by
    rw [hwork, Controller.given_jobs, Ev.counted_jobs] at hnew
    exact (List.append_cancel_left hnew).symm
  have hself : (s.dev.newJob l i r snap p.filmAware).fieldSelf = some i := if_pos hwin
  refine ⟨_, s.dev.newJob l i r snap p.filmAware,
    (s.dev.lane l).op.jobs.map (s.dev.readyJob (s.dev.nextFor l i r.sequence)), exec_fieldTaken hc, ?jobs,
    List.length_map _, ?ready, Device.map_readyJob_of_none, rfl, rfl, rfl, rfl, rfl, rfl, hself, rfl, rfl, rfl, rfl,
    rfl, rfl, rfl, rfl, rfl, rfl, rfl, rfl, rfl, rfl, rfl, rfl, ?refs, ?created, ?first, ?last, ?late, ?reached, ?notReached⟩
  case jobs => rw [hop]; exact Controller.given_jobs
  case ready =>
    intro k hk
    obtain ⟨j, -, rfl⟩ := List.mem_map.1 hk
    exact s.dev.readyJob_state _ j
  case refs =>
    intro k
    rw [State.fieldTaken_slot hr, hrefs, Ev.counted_slot, hnew', List.flatMap_singleton, Nat.add_right_comm]
    exact congrArg (· + _) s.dev.readyWaiting_refs
  case created => rw [hop]; exact Controller.given_jobsCreated
  case first => rw [hop]; exact Controller.given_first
  case last => rw [hop]; exact Controller.given_last
  case late =>
    intro a ix harmed hstart hindex hlt
    rw [hop]
    exact Controller.mem_causes_given (hlate harmed (by simp [hstart, hindex, TransferStart.late, hlt]))
  case reached => intro h; rw [hop]; exact Controller.given_of_reached h
  case notReached => intro h; rw [hop]; exact Controller.given_of_not_reached h

end
end Sys2Proof.Machine

/-! SUPPORT. The units of a dropout span, and the words that the temporal and the spatial candidate write into a unit.
    PROOFS. Settles O16. -/
namespace Sys2Proof.Machine
section
variable {m : Dram} {i j : SlotId} {u : RepairUnit} {y : Span} {std : Standard} {a w : Nat}

/-! ## The units of a span (R53) -/

theorem Span.units_of_run (h : y.kind = .run) : y.units std = [⟨y.line, y.first, y.last⟩] := by simp [Span.units, h]
theorem Span.units_of_line (h : y.kind = .line) : y.units std = [⟨y.line, 0, 719⟩] := by simp [Span.units, h]
theorem Span.units_of_rest (h : y.kind = .rest) :
    y.units std = (List.range' y.line (std.lines - y.line)).map fun k => ⟨k, 0, 719⟩ := by simp [Span.units, h]

theorem Span.getElem?_units_of_rest {k : Nat} (h : y.kind = .rest) (hu : (y.units std)[k]? = some u) :
    u = ⟨y.line + k, 0, 719⟩ := by
  rw [Span.units_of_rest h, List.getElem?_map, Option.map_eq_some_iff] at hu
  obtain ⟨n, hn, rfl⟩ := hu
  obtain ⟨_, rfl⟩ := List.getElem?_eq_some_iff.1 hn
  simp

/-! ## The words of a unit -/

theorem RepairUnit.mem_words : w ∈ u.words ↔ (∃ p, u.first ≤ p ∧ p ≤ u.last ∧ w = 2 * p + 1) ∨
    ∃ q, u.first / 2 ≤ q ∧ q ≤ u.last / 2 ∧ (w = 4 * q ∨ w = 4 * q + 2) := by
  have range (b c p : Nat) : p ∈ List.range' b (c + 1 - b) ↔ b ≤ p ∧ p ≤ c := by
    rw [List.mem_range'_1]; omega
  simp only [RepairUnit.words, List.mem_append, List.mem_map, List.mem_flatMap, range, List.mem_cons, List.not_mem_nil,
    or_false, and_assoc, eq_comm]

/-- The words of a unit lie in its line. -/
theorem RepairUnit.word_lt (hu : u.last ≤ 719) (hw : w ∈ u.words) : w < 1440 := by
  rcases RepairUnit.mem_words.1 hw with ⟨p, -, hp, rfl⟩ | ⟨q, -, hq, rfl | rfl⟩ <;> omega

/-- Words within a slot's first 288 lines lie in that slot alone. -/
theorem fieldAddr_ne_of_slot {y x y' x' : Nat} (h : i ≠ j) (hy : y < 288) (hx : x < 1440) (hy' : y' < 288)
    (hx' : x' < 1440) : fieldAddr j y x ≠ fieldAddr i y' x' := fun ha =>
  h (Fin.ext (by unfold fieldAddr at ha; omega))

theorem fieldAddr_word {y x x' : Nat} (h : fieldAddr i y x = fieldAddr i y x') : x = x' := by
  unfold fieldAddr at h; omega

/-! ## Words written one after another -/

section
variable {addr : Nat → Nat} {val : Dram → Nat → Sample} {ws : List Nat}

theorem Dram.read_foldl_write_of_ne (h : ∀ w ∈ ws, a ≠ addr w) :
    (ws.foldl (fun m w => m.write (addr w) (val m w)) m).read a = m.read a :=
  List.foldlRecOn (motive := fun m' : Dram => m'.read a = m.read a) ws _ rfl fun m' hm w hw =>
    (m'.read_write_of_ne _ (h w hw)).trans hm

/-- A word whose value the writes leave alone reads as that value, as it was before them. -/
theorem Dram.read_foldl_write (hinj : ∀ w w', addr w = addr w' → w = w')
    (hval : ∀ m' v, ∀ x ∈ ws, val (Dram.write m' (addr x) v) w = val m' w) (hw : w ∈ ws) :
    (ws.foldl (fun m w => m.write (addr w) (val m w)) m).read (addr w) = val m w := by
  induction ws generalizing m with
  | nil => cases hw
  | cons x ws ih =>
    rw [List.foldl_cons]
    by_cases hmem : w ∈ ws
    · rw [ih (fun m' v x hx => hval m' v x (List.mem_cons_of_mem _ hx)) hmem]
      exact hval m _ x List.mem_cons_self
    · obtain rfl : w = x := (List.mem_cons.1 hw).resolve_right hmem
      rw [Dram.read_foldl_write_of_ne fun x hx ha => hmem (by rwa [hinj w x ha])]
      exact m.read_write_self _ _

end

/-! ## What a candidate writes (R55, R57) -/

theorem read_substitute_of_ne (h : ∀ w ∈ u.words, a ≠ fieldAddr i u.line w) : (substitute i j u m).read a = m.read a :=
  Dram.read_foldl_write_of_ne h

theorem read_interpolate_of_ne (h : ∀ w ∈ u.words, a ≠ fieldAddr i u.line w) : (interpolate i u m).read a = m.read a :=
  Dram.read_foldl_write_of_ne h

theorem read_substitute (hij : i ≠ j) (hl : u.line < 288) (hu : u.last ≤ 719) (hw : w ∈ u.words) :
    (substitute i j u m).read (fieldAddr i u.line w) = m.read (fieldAddr j u.line w) :=
  Dram.read_foldl_write (val := fun m w => m.read (fieldAddr j u.line w)) (fun _ _ => fieldAddr_word)
    (fun m' v _ hx => m'.read_write_of_ne v
      (fieldAddr_ne_of_slot hij hl (RepairUnit.word_lt hu hw) hl (RepairUnit.word_lt hu hx))) hw

theorem read_interpolate (hl : 1 ≤ u.line) (hu : u.last ≤ 719) (hw : w ∈ u.words) :
    (interpolate i u m).read (fieldAddr i u.line w) =
      average (m.read (fieldAddr i (u.line - 1) w)) (m.read (fieldAddr i (u.line + 1) w)) := by
  have hne (y x : Nat) (hy : y ≠ u.line) (hx : x ∈ u.words) : fieldAddr i y w ≠ fieldAddr i u.line x := fun ha =>
    hy (fieldAddr_line (RepairUnit.word_lt hu hw) (RepairUnit.word_lt hu hx) ha)
  refine Dram.read_foldl_write
    (val := fun m w => average (m.read (fieldAddr i (u.line - 1) w)) (m.read (fieldAddr i (u.line + 1) w)))
    (fun _ _ => fieldAddr_word) (fun m' v x hx => ?_) hw
  rw [m'.read_write_of_ne v (hne _ x (by omega) hx), m'.read_write_of_ne v (hne _ x (by omega) hx)]

/-- The rounded average of two samples is a sample: nothing is lost of it. -/
theorem average_toNat (a b : Sample) : (average a b).toNat = (a.toNat + b.toNat + 1) / 2 := by
  rw [average, BitVec.toNat_ofNat, Nat.mod_eq_of_lt]
  omega

/-- Settles O16: the units by the kind of the span, and the two candidates word by word. -/
theorem repairUnitSamples : Obligations.RepairUnitSamples := by
  refine ⟨fun y std => ⟨Span.units_of_run, Span.units_of_line, fun h => ⟨?_, fun k u => Span.getElem?_units_of_rest h⟩⟩,
    fun m i j u hij hl hu => ⟨fun w => RepairUnit.mem_words, fun w => read_substitute hij hl hu, fun h1 w hw => ?_,
      fun a ha => ⟨read_substitute_of_ne ha, read_interpolate_of_ne ha⟩⟩⟩
  · rw [Span.units_of_rest h, List.length_map, List.length_range']
    cases std <;> rfl
  · rw [read_interpolate h1 hu hw, average_toNat]

end
end Sys2Proof.Machine

/-! SUPPORT. Table 24: the candidates of a unit by their rules, the result a unit gets, and what a field's repair makes
of its list and of the stacked DRAM.
    PROOFS. Settles O15. -/
namespace Sys2Proof.Machine
section
variable {d : Device} {l : Lane} {i : SlotId} {r : FieldRecord} {u : RepairUnit} {y : Span} {std : Standard}
  {method : RepairMethod} {m : Dram} {n2 : Option SlotId} {a first last line : Nat} {o : SpanOutcome}
  {os : List SpanOutcome} {res : RepairUnit → SpanOutcome} {us : List RepairUnit} {s : State} {x : List Span}

/-! ## The candidates (R54, R56) -/

theorem Span.touches_iff : y.touches line first last = true ↔ y.meets line first last := by
  by_cases h : y.kind = .rest <;> simp [Span.touches, Span.meets, h, and_assoc]

theorem Span.untrusted_iff : y.untrusted = true ↔ y.outcome = .unrepaired ∨ y.outcome = .notAttempted := by
  simp [Span.untrusted]

/-- The temporal candidate's source is the field n-2 of the window, with its record (R54). -/
theorem Device.repairSource_eq_some {n : Nat} {src : RepairSource} : d.repairSource l n = some src ↔
    ∃ j rp, d.earlier l n 2 = some j ∧ d.record j = some rp ∧ src = ⟨j, rp.parity, rp.spans⟩ := by
  cases hj : d.earlier l n 2 <;> simp [Device.repairSource, hj, eq_comm]

theorem temporalAvailable_iff :
    temporalAvailable (d.repairSource l r.sequence) r.parity u = true ↔ d.temporalClean l r u := by
  have clean (spans : List Span) : (spans.all fun z => !(z.untrusted && z.touches u.line u.first u.last)) = true ↔
      ∀ z ∈ spans, z.outcome = .unrepaired ∨ z.outcome = .notAttempted → ¬z.meets u.line u.first u.last := by
    simp [List.all_eq_true, ← Span.untrusted_iff, ← Span.touches_iff, imp_iff_not_or]
  constructor
  · intro h
    cases hsrc : d.repairSource l r.sequence with
    | none => rw [hsrc] at h; cases h
    | some src =>
      obtain ⟨j, rp, hj, hrp, rfl⟩ := Device.repairSource_eq_some.1 hsrc
      rw [hsrc, temporalAvailable, Bool.and_eq_true, decide_eq_true_eq, clean] at h
      exact ⟨j, rp, hj, hrp, h⟩
  · rintro ⟨j, rp, hj, hrp, h⟩
    rw [Device.repairSource_eq_some.2 ⟨j, rp, hj, hrp, rfl⟩, temporalAvailable, Bool.and_eq_true, decide_eq_true_eq,
      clean]
    exact h

theorem spatialAvailable_iff : spatialAvailable std x u = true ↔ spatialClean std x u := by
  cases std <;>
    simp [spatialAvailable, spatialClean, ← Span.touches_iff, Standard.lines, and_assoc]

/-- Table 24, for candidates whose availability the two flags say. -/
theorem gives_chooseCandidate {t s : Bool} : method.gives (t = true) (s = true) (chooseCandidate method t s) := by
  cases method with
  | off => rfl
  | temporalFirst | spatialFirst => cases t <;> cases s <;> simp [RepairMethod.gives, chooseCandidate]

theorem RepairMethod.temporal_of_gives {t s : Prop} (h : method.gives t s .substituted) : t := by
  cases method with
  | off => cases h
  | temporalFirst => simpa [RepairMethod.gives] using h
  | spatialFirst =>
    have hboth : ¬s ∧ t := by simpa [RepairMethod.gives] using h
    exact hboth.2

/-! ## The result of a unit (R58) -/

/-- The result of a unit of the field `r` of lane `l`. -/
def Device.unitResult (d : Device) (l : Lane) (r : FieldRecord) (u : RepairUnit) : SpanOutcome :=
  chooseCandidate (d.lane l).settings.repair (temporalAvailable (d.repairSource l r.sequence) r.parity u)
    (spatialAvailable (d.lane l).settings.standard r.spans u)

theorem Device.gives_unitResult : (d.lane l).settings.repair.gives (d.temporalClean l r u)
    (spatialClean (d.lane l).settings.standard r.spans u) (d.unitResult l r u) := by
  rw [← temporalAvailable_iff, ← spatialAvailable_iff]
  exact gives_chooseCandidate

theorem Device.unitResult_of_off (h : (d.lane l).settings.repair = .off) : d.unitResult l r u = .notAttempted := by
  rw [Device.unitResult, h]; rfl

/-- A unit is written as its result says: a substituted one has a field n-2 to copy from. -/
theorem Device.repairUnit_eq :
    repairUnit (d.lane l).settings.standard (d.lane l).settings.repair (d.repairSource l r.sequence) r.parity r.spans
        i m u =
      (d.unitResult l r u, u.written i (d.earlier l r.sequence 2) (d.unitResult l r u) m) := by
  cases hres : d.unitResult l r u with
  | substituted =>
    obtain ⟨j, rp, hj, hrp, -⟩ := RepairMethod.temporal_of_gives (hres ▸ Device.gives_unitResult)
    have hsrc := Device.repairSource_eq_some.2 ⟨j, rp, hj, hrp, rfl⟩
    rw [Device.unitResult, hsrc] at hres
    simp only [repairUnit, hsrc, hres, RepairUnit.written, hj]
  | interpolated | unrepaired | notAttempted =>
    rw [Device.unitResult] at hres
    simp only [repairUnit, hres, RepairUnit.written]

/-! ## What is written -/

theorem RepairUnit.written_of_notAttempted : u.written i n2 .notAttempted m = m := rfl

theorem RepairUnit.read_written_of_ne (h : ∀ w ∈ u.words, a ≠ fieldAddr i u.line w) :
    (u.written i n2 o m).read a = m.read a := by
  unfold RepairUnit.written
  split
  · exact read_substitute_of_ne h
  · exact read_interpolate_of_ne h
  · rfl

/-- The stacked DRAM after the units `us` are written in order, each as its result says. -/
def writtenUnits (i : SlotId) (n2 : Option SlotId) (res : RepairUnit → SpanOutcome) (us : List RepairUnit) (m : Dram) :
    Dram := us.foldl (fun m u => u.written i n2 (res u) m) m

theorem read_writtenUnits_of_ne (h : ∀ u ∈ us, ∀ w ∈ u.words, a ≠ fieldAddr i u.line w) :
    (writtenUnits i n2 res us m).read a = m.read a :=
  List.foldlRecOn (motive := fun m' : Dram => m'.read a = m.read a) us _ rfl fun _ hm u hu =>
    (RepairUnit.read_written_of_ne (h u hu)).trans hm

/-- Units that are not attempted write nothing (R52). -/
theorem writtenUnits_of_notAttempted (h : ∀ u ∈ us, res u = .notAttempted) : writtenUnits i n2 res us m = m :=
  List.foldlRecOn (motive := fun m' : Dram => m' = m) us _ rfl fun _ hm u hu => by
    rw [h u hu, RepairUnit.written_of_notAttempted, hm]

/-! ## The outcome of a span (R59) -/

/-- The worst of a span's results. -/
def worstOutcome (os : List SpanOutcome) : SpanOutcome := os.foldl SpanOutcome.worse .notAttempted

theorem SpanOutcome.badness_worse (a b : SpanOutcome) : (a.worse b).badness = max a.badness b.badness := by
  unfold SpanOutcome.worse
  split <;> omega

theorem SpanOutcome.worse_eq_or (a b : SpanOutcome) : a.worse b = a ∨ a.worse b = b := by
  unfold SpanOutcome.worse
  split <;> simp

theorem worstOutcome_append : worstOutcome (os ++ [o]) = (worstOutcome os).worse o := by
  simp [worstOutcome]

theorem badness_le_worstOutcome (h : o ∈ os) : o.badness ≤ (worstOutcome os).badness := by
  induction os using List.reverseRecOn with
  | nil => cases h
  | append_singleton os b ih =>
    rw [worstOutcome_append, SpanOutcome.badness_worse, le_max_iff]
    rcases List.mem_append.1 h with h | h
    · exact .inl (ih h)
    · exact .inr (by rw [List.mem_singleton.1 h])

theorem worstOutcome_mem (os : List SpanOutcome) : worstOutcome os = .notAttempted ∨ worstOutcome os ∈ os := by
  induction os using List.reverseRecOn with
  | nil => exact .inl rfl
  | append_singleton os b ih =>
    rw [worstOutcome_append]
    rcases SpanOutcome.worse_eq_or (worstOutcome os) b with h | h <;> rw [h]
    · exact ih.imp_right (List.mem_append_left _)
    · exact .inr (by simp)

theorem SpanOutcome.badness_injective : Function.Injective SpanOutcome.badness := fun a b h => by
  revert h
  cases a <;> cases b <;> simp [SpanOutcome.badness]

/-- A result that none of the others is worse than is the span's outcome. -/
theorem worstOutcome_eq (h : o ∈ os) (hmax : ∀ b ∈ os, b.badness ≤ o.badness) : worstOutcome os = o := by
  refine SpanOutcome.badness_injective (le_antisymm ?_ (badness_le_worstOutcome h))
  rcases worstOutcome_mem os with hw | hw
  · rw [hw]; exact Nat.zero_le _
  · exact hmax _ hw

theorem worstOutcome_of_unrepaired (h : .unrepaired ∈ os) : worstOutcome os = .unrepaired :=
  worstOutcome_eq h fun b _ => by cases b <;> simp [SpanOutcome.badness]

theorem worstOutcome_of_interpolated (h : .interpolated ∈ os) (hn : .unrepaired ∉ os) :
    worstOutcome os = .interpolated :=
  worstOutcome_eq h fun b hb => by
    cases b with
    | unrepaired => exact absurd hb hn
    | notAttempted | substituted | interpolated => simp [SpanOutcome.badness]

theorem worstOutcome_of_substituted (h : os ≠ []) (hs : ∀ b ∈ os, b = .substituted) :
    worstOutcome os = .substituted := by
  obtain ⟨b, hb⟩ := List.exists_mem_of_ne_nil os h
  exact worstOutcome_eq (hs b hb ▸ hb) fun b hb => by rw [hs b hb]

/-! ## The spans of a field (R53) -/

/-- A span with the outcome that its units' results give it. -/
def Span.repaired (std : Standard) (res : RepairUnit → SpanOutcome) (y : Span) : Span :=
  { y with outcome := worstOutcome ((y.units std).map res) }

/-- What a repaired span's outcome says of the results of its units (R59). -/
theorem Span.repaired_outcome :
    ((∃ u ∈ y.units std, res u = .unrepaired) → (y.repaired std res).outcome = .unrepaired) ∧
    ((∀ u ∈ y.units std, res u ≠ .unrepaired) → (∃ u ∈ y.units std, res u = .interpolated) →
      (y.repaired std res).outcome = .interpolated) ∧
    (y.units std ≠ [] → (∀ u ∈ y.units std, res u = .substituted) → (y.repaired std res).outcome = .substituted) := by
  refine ⟨fun h => worstOutcome_of_unrepaired (List.mem_map.2 h),
    fun hn h => worstOutcome_of_interpolated (List.mem_map.2 h) fun hu => ?_,
    fun hne hs => worstOutcome_of_substituted (by simpa using hne) (List.forall_mem_map.2 hs)⟩
  obtain ⟨u, hu, hres⟩ := List.mem_map.1 hu
  exact hn u hu hres

/-- The outcomes and the writes of the units go side by side. -/
theorem foldl_repairUnits (m : Dram) :
    us.foldl (fun q u => (SpanOutcome.worse q.1 (res u), u.written i n2 (res u) q.2)) (o, m) =
      ((us.map res).foldl SpanOutcome.worse o, writtenUnits i n2 res us m) := by
  induction us generalizing o m with
  | nil => rfl
  | cons u us ih => exact ih _

/-- One span is repaired: it joins the list with its outcome, and its units are written. -/
theorem Device.repairSpan_eq (p : List Span × Dram) (y : Span) :
    repairSpan (d.lane l).settings.standard (d.lane l).settings.repair (d.repairSource l r.sequence) r.parity r.spans
        i p y =
      (p.1 ++ [y.repaired (d.lane l).settings.standard (d.unitResult l r)],
        writtenUnits i (d.earlier l r.sequence 2) (d.unitResult l r) (y.units (d.lane l).settings.standard) p.2) := by
  simp only [repairSpan, Device.repairUnit_eq, foldl_repairUnits]
  rfl

/-- The list of the field `r` of lane `l` after its repair: under OFF no outcome changes (R52). -/
def Device.repairedSpans (d : Device) (l : Lane) (r : FieldRecord) : List Span :=
  if (d.lane l).settings.repair = .off then r.spans
  else r.spans.map (Span.repaired (d.lane l).settings.standard (d.unitResult l r))

/-- The stacked DRAM after the repair of the field `r` of lane `l` in slot `i`. -/
def Device.repairedDram (d : Device) (l : Lane) (i : SlotId) (r : FieldRecord) : Dram :=
  writtenUnits i (d.earlier l r.sequence 2) (d.unitResult l r)
    (r.spans.flatMap fun y => y.units (d.lane l).settings.standard) d.dram

theorem Device.foldl_repairSpan (p : List Span × Dram) (spans : List Span) :
    spans.foldl (repairSpan (d.lane l).settings.standard (d.lane l).settings.repair (d.repairSource l r.sequence) r.parity
        r.spans i) p =
      (p.1 ++ spans.map (Span.repaired (d.lane l).settings.standard (d.unitResult l r)),
        writtenUnits i (d.earlier l r.sequence 2) (d.unitResult l r)
          (spans.flatMap fun y => y.units (d.lane l).settings.standard) p.2) := by
  induction spans generalizing p with
  | nil => simp [writtenUnits]
  | cons y spans ih => rw [List.foldl_cons, ih, Device.repairSpan_eq]; simp [writtenUnits]

theorem Device.repairSpans_eq :
    repairSpans (d.lane l).settings.standard (d.lane l).settings.repair (d.repairSource l r.sequence) r.parity i r.spans
        d.dram = (d.repairedSpans l r, d.repairedDram l i r) := by
  by_cases hoff : (d.lane l).settings.repair = .off
  · have hdram : d.repairedDram l i r = d.dram :=
      writtenUnits_of_notAttempted fun u _ => Device.unitResult_of_off hoff
    rw [hdram, Device.repairedSpans, if_pos hoff, hoff]
    rfl
  · have hfold := d.foldl_repairSpan (l := l) (i := i) (r := r) ([], d.dram) r.spans
    rw [Device.repairedSpans, if_neg hoff, Device.repairedDram, ← List.nil_append (r.spans.map _), ← hfold]
    unfold repairSpans
    split
    · exact absurd ‹_› hoff
    · rfl

/-! ## The event (R50, R61, R62) -/

/-- The part after the repair of the field `r` of lane `l` in slot `i`: `x` is its list, `m` the stacked DRAM. -/
def Device.withRepair (d : Device) (l : Lane) (i : SlotId) (r : FieldRecord) (x : List Span) (m : Dram) : Device :=
  ((d.modRecord i fun _ => r.withRepair x).setDram m).modLane l fun u => { u with
    op := u.op.count fun c => c.addRepairs (countOutcome .substituted x) (countOutcome .interpolated x)
      (countOutcome .unrepaired x)
    chain := some ⟨.label, i⟩ }

theorem Ev.repairField_eq (h : d.record i = some r) :
    (Ev.start d).repairField l i = Ev.start (d.withRepair l i r (d.repairedSpans l r) (d.repairedDram l i r)) := by
  have hrecord : (Ev.start d).dev.record i = some r := h
  rw [Ev.repairField, hrecord]
  simp only [Ev.start_dev, Device.repairSpans_eq]
  refine congrArg Ev.start ?_
  rw [Ev.modOp_dev, Device.modLane_modLane]
  rfl

theorem exec_dropoutRepair (hc : (s.dev.lane l).chain = some ⟨.repair, i⟩) (hr : s.dev.record i = some r) :
    exec (.dropoutRepair l) s = .next { s with
      dev := s.dev.withRepair l i r (s.dev.repairedSpans l r) (s.dev.repairedDram l i r) } := by
  refine congrArg Host.Outcome.next (State.event_of_start ?_)
  have hc' : ((Ev.start s.dev).dev.lane l).chain = some ⟨.repair, i⟩ := hc
  simp only [Ev.chainStage, Ev.chainStep, hc', if_true]
  exact Ev.repairField_eq hr

theorem Device.withRepair_slot_self (h : d.record i = some r) : (d.withRepair l i r x m).slot i =
    { d.slot i with record := some (r.withRepair x) } := by
  have hmap : (d.slot i).record.map (fun _ => r.withRepair x) = some (r.withRepair x) := by
    rw [show (d.slot i).record = some r from h]; rfl
  exact (Device.modRecord_slot_self _).trans (by rw [hmap])

theorem Device.withRepair_slot_of_ne {k : SlotId} (h : k ≠ i) : (d.withRepair l i r x m).slot k = d.slot k :=
  Device.slot_setSlot_of_ne d _ h

theorem Device.withRepair_lane : (d.withRepair l i r x m).lane l = { d.lane l with
    op := (d.lane l).op.count fun c => c.addRepairs (countOutcome .substituted x) (countOutcome .interpolated x)
      (countOutcome .unrepaired x)
    chain := some ⟨.label, i⟩ } := Device.lane_modLane_self _ _ _

theorem Device.withRepair_op : ((d.withRepair l i r x m).lane l).op = (d.lane l).op.count fun c =>
    c.addRepairs (countOutcome .substituted x) (countOutcome .interpolated x) (countOutcome .unrepaired x) := by
  rw [Device.withRepair_lane]

theorem Controller.count_of_idle {op : Controller} {g : Counts → Counts} (h : op.state = .idle) : op.count g = op :=
  if_pos (OpState.isIdle_iff.2 h)

theorem Controller.count_of_running {op : Controller} {g : Counts → Counts} (h : op.state ≠ .idle) :
    op.count g = { op with counts := g op.counts } := if_neg fun hi => h (OpState.isIdle_iff.1 hi)

theorem countOutcome_of_notAttempted (h : ∀ y ∈ x, y.outcome = .notAttempted) (ho : o ≠ .notAttempted) :
    countOutcome o x = 0 := by
  rw [countOutcome, List.filter_eq_nil_iff.2 fun y hy => by simpa [h y hy] using ho.symm]
  rfl

/-- Repair writes a span's outcome and nothing else of it. -/
theorem Device.repairedSpans_clear : ((d.repairedSpans l r).map fun y => { y with outcome := .notAttempted }) =
    r.spans.map fun y => { y with outcome := .notAttempted } := by
  unfold Device.repairedSpans
  split
  · rfl
  · rw [List.map_map]; rfl

/-- Settles O15: the part after the repair, field by field. -/
theorem dropoutRepairWritesItsUnits : Obligations.DropoutRepairWritesItsUnits := by
  rintro s l i r _ hc hr rfl
  have hexec := exec_dropoutRepair hc hr
  obtain ⟨hside, hpending⟩ := exec_outside rfl hexec
  obtain ⟨hlanes, hhandler, -⟩ := Device.sameOutside_of_outside hside
  refine ⟨_, s.dev.repairedSpans l r, s.dev.unitResult l r, hexec, fun u => Device.gives_unitResult, rfl, ?outcomes,
    Device.withRepair_slot_self hr, Device.repairedSpans_clear, by rw [Device.withRepair_lane], ?idle, ?running, ?frame,
    ?off, fun k => Device.withRepair_slot_of_ne, rfl, hlanes, by rw [Device.withRepair_lane], hhandler, rfl, rfl,
    hpending⟩
  case outcomes =>
    intro hon k y z hy hz
    rw [Device.repairedSpans, if_neg hon, List.getElem?_map, hy] at hz
    obtain rfl := Option.some.inj hz
    exact Span.repaired_outcome
  case idle =>
    intro hidle
    exact Device.withRepair_op.trans (Controller.count_of_idle hidle)
  case running =>
    intro hrun
    exact Device.withRepair_op.trans (Controller.count_of_running hrun)
  case frame =>
    intro a ha
    refine read_writtenUnits_of_ne fun u hu => ?_
    obtain ⟨y, hy, huy⟩ := List.mem_flatMap.1 hu
    exact ha y hy u huy
  case off =>
    intro hoff
    have hspans : s.dev.repairedSpans l r = r.spans := if_pos hoff
    refine ⟨hspans, writtenUnits_of_notAttempted fun u _ => Device.unitResult_of_off hoff, fun hclear => ?_⟩
    rw [hspans]
    exact ⟨countOutcome_of_notAttempted hclear nofun, countOutcome_of_notAttempted hclear nofun,
      countOutcome_of_notAttempted hclear nofun⟩

end
end Sys2Proof.Machine

/-! SUPPORT. The tracker's judgement, one equation for each way it can go, and the hypothesis that wins a lock.
    PROOFS. Settles O22. -/
namespace Sys2Proof.Machine
section
variable {m : Monitor} {set : Settings} {std : Standard} {n pos : Nat} {p : Bool × Bool} {h : Fin 7} {x y : Bool}
  {disc held : Bool} {a r : Option Bool}

/-! ## The tracker's reset (R70, R79) -/

theorem Monitor.resetTracker_hyps (m : Monitor) (h : Fin 7) :
    m.resetTracker.hyps[h] = ⟨m.hyps[h].position, 0⟩ := by simp [Monitor.resetTracker]

theorem Monitor.resetTracker_position (m : Monitor) (h : Fin 7) :
    m.resetTracker.hyps[h].position = m.hyps[h].position := by rw [m.resetTracker_hyps]

/-- A reset tracker stands as a second reset would leave it. -/
theorem Monitor.resetTracker_resetTracker (m : Monitor) : m.resetTracker.resetTracker = m.resetTracker := by
  simp [Monitor.resetTracker, Function.comp_def]

/-! ## The judgement's ways -/

/-- The discontinuity mark resets the tracker before the judgement (R79). -/
theorem Monitor.judge_of_discontinuity :
    m.judge set true held a r = m.resetTracker.judge set false held a r := by
  cases held
  · rfl
  · simp [Monitor.judge, Monitor.resetTracker_resetTracker]

theorem Monitor.judge_of_held : m.judge set false true a r = (m.resetTracker, none) := rfl

theorem Monitor.judge_of_not_fullyMeasured (h : a = none ∨ r = none) : m.judge set false false a r = (m, none) := by
  rcases h with rfl | rfl
  · rfl
  · cases a <;> rfl

theorem Monitor.judge_of_video (hv : m.tracker = .video) : m.judge set false false (some x) (some y) =
    if set.cadenceEnable = true then m.judgeVideo set.standard set.lockCount (x, y) else (m, none) := by
  simp [Monitor.judge, hv]

theorem Monitor.judge_of_film (hf : m.tracker ≠ .video) (hp : m.filmPos = some pos) :
    m.judge set false false (some x) (some y) = m.judgeFilm pos (x, y) := by
  cases ht : m.tracker with
  | video => exact absurd ht hf
  | film22 | film32 => simp [Monitor.judge, ht, hp]

theorem Monitor.judge_of_film_none (hf : m.tracker ≠ .video) (hp : m.filmPos = none) :
    m.judge set false false (some x) (some y) = (m, none) := by
  cases ht : m.tracker with
  | video => exact absurd ht hf
  | film22 | film32 => simp [Monitor.judge, ht, hp]

/-- Everything that a judgement without mark and held flag can do: it leaves the tracker, or it judges the pair in VIDEO
or in FILM (R74, R76, R80). -/
theorem Monitor.judge_cases (m : Monitor) (set : Settings) (a r : Option Bool) :
    m.judge set false false a r = (m, none) ∨ ∃ x y, a = some x ∧ r = some y ∧
      ((m.tracker = .video ∧ set.cadenceEnable = true ∧
          m.judge set false false a r = m.judgeVideo set.standard set.lockCount (x, y)) ∨
        (m.tracker ≠ .video ∧ ∃ pos, m.judge set false false a r = m.judgeFilm pos (x, y))) := by
  match a, r with
  | none, _ => exact .inl (Monitor.judge_of_not_fullyMeasured (.inl rfl))
  | some _, none => exact .inl (Monitor.judge_of_not_fullyMeasured (.inr rfl))
  | some x, some y =>
    by_cases hv : m.tracker = .video
    · rw [Monitor.judge_of_video hv]
      by_cases hc : set.cadenceEnable = true
      · exact .inr ⟨x, y, rfl, rfl, .inl ⟨hv, hc, if_pos hc⟩⟩
      · exact .inl (if_neg hc)
    · cases hp : m.filmPos with
      | none => exact .inl (Monitor.judge_of_film_none hv hp)
      | some pos => exact .inr ⟨x, y, rfl, rfl, .inr ⟨hv, pos, Monitor.judge_of_film hv hp⟩⟩

/-! ## The runs in VIDEO (R74) -/

/-- The run of hypothesis `h` after the pair `p`: a disabled hypothesis is not scored. -/
def Monitor.scoredRun (m : Monitor) (std : Standard) (p : Bool × Bool) (h : Fin 7) : Nat :=
  if hypEnabled std h = true then scoreRun (expectedPair (hypPattern h) m.hyps[h].position) p m.hyps[h].run
  else m.hyps[h].run

theorem Monitor.score_hyps (m : Monitor) (std : Standard) (p : Bool × Bool) (h : Fin 7) :
    (m.score std p).hyps[h] = ⟨m.hyps[h].position, m.scoredRun std p h⟩ := by
  by_cases he : hypEnabled std h = true <;> simp [Monitor.score, Monitor.scoredRun, he]

theorem Monitor.scoredRun_eq : m.scoredRun std (x, y) h =
    if hypEnabled std h = false then m.hyps[h].run
    else if (x, y) = expectedPair (hypPattern h) m.hyps[h].position then m.hyps[h].run + 1
    else if x = true ∧ y = true then m.hyps[h].run
    else 0 := by
  by_cases he : hypEnabled std h = true <;> simp [Monitor.scoredRun, scoreRun, he]

/-- A run that stood below lockCount reaches it by an exact match only. -/
theorem scoreRun_reaches {expected : Bool × Bool} {run : Nat} (hrun : run < n) (hs : scoreRun expected p run = n) :
    expected = p ∧ run + 1 = n := by
  unfold scoreRun at hs
  split at hs
  · exact ⟨Eq.symm ‹_›, hs⟩
  · split at hs <;> omega

/-! ## The winner of a lock (R75) -/

/-- Is hypothesis `h` enabled, with its run at lockCount `n`? -/
def Monitor.atLock (m : Monitor) (std : Standard) (n : Nat) (h : Fin 7) : Bool :=
  hypEnabled std h && decide (m.hyps[h].run = n)

theorem Monitor.atLock_iff : m.atLock std n h = true ↔ hypEnabled std h = true ∧ m.hyps[h].run = n := by
  simp [Monitor.atLock]

/-- 2:3 goes before 2:2. -/
theorem Monitor.winner_eq : m.winner std n =
    ((List.finRange 7).find? fun k => m.atLock std n k && decide (hypPattern k = .film32)).or
      ((List.finRange 7).find? (m.atLock std n)) := by
  unfold Monitor.winner Monitor.atLock
  dsimp only
  split <;> simp only [*, Option.some_or, Option.none_or]

theorem hypPattern_eq_film22 (hp : hypPattern h ≠ .film32) : hypPattern h = .film22 := by
  unfold hypPattern at hp ⊢
  split at hp
  · exact if_pos ‹_›
  · exact absurd rfl hp

/-- The lowest-numbered hypothesis that meets a condition. -/
theorem find?_hypotheses {q : Fin 7 → Bool} (hq : q h = true) (hlow : ∀ k, q k = true → h ≤ k) :
    (List.finRange 7).find? q = some h := by
  rw [← Fin.find?_eq_find?_finRange, Fin.find?_eq_some_iff]
  exact ⟨hq, fun k hk => Bool.eq_false_iff.2 fun hqk => absurd (hlow k hqk) (not_le.2 hk)⟩

theorem Monitor.winner_of_best (hlock : m.atLock std n h = true)
    (hbest : ∀ k, m.atLock std n k = true →
      (hypPattern k = .film32 → hypPattern h = .film32) ∧ (hypPattern k = hypPattern h → h ≤ k)) :
    m.winner std n = some h := by
  rw [Monitor.winner_eq]
  by_cases hp : hypPattern h = .film32
  · rw [find?_hypotheses (h := h) (by simp [hlock, hp]), Option.some_or]
    intro k hk
    simp only [Bool.and_eq_true, decide_eq_true_eq] at hk
    exact (hbest k hk.1).2 (hk.2.trans hp.symm)
  · rw [List.find?_eq_none.2, Option.none_or, find?_hypotheses hlock]
    · intro k hk
      have hk22 := hypPattern_eq_film22 fun h32 => hp ((hbest k hk).1 h32)
      exact (hbest k hk).2 (hk22.trans (hypPattern_eq_film22 hp).symm)
    · intro k _ hk
      simp only [Bool.and_eq_true, decide_eq_true_eq] at hk
      exact hp ((hbest k hk.1).1 hk.2)

theorem Monitor.winner_of_none (hn : ∀ k, m.atLock std n k ≠ true) : m.winner std n = none := by
  rw [Monitor.winner_eq, List.find?_eq_none.2 fun k _ hk => hn k (Bool.and_eq_true _ _ ▸ hk).1, Option.none_or]
  exact List.find?_eq_none.2 fun k _ => hn k

theorem Monitor.atLock_of_winner (hw : m.winner std n = some h) : m.atLock std n h = true := by
  rw [Monitor.winner_eq, Option.or_eq_some_iff] at hw
  rcases hw with hw | ⟨-, hw⟩
  · have hlock := List.find?_some hw
    exact (Bool.and_eq_true _ _ ▸ hlock).1
  · exact List.find?_some (p := m.atLock std n) hw

theorem Monitor.atLock_score :
    (m.score std p).atLock std n h = true ↔ hypEnabled std h = true ∧ m.scoredRun std p h = n := by
  rw [Monitor.atLock_iff, Monitor.score_hyps]

/-! ## Judging in VIDEO (R74, R75, R81) -/

theorem Monitor.judgeVideo_of_winner (hw : (m.score std p).winner std n = some h) : m.judgeVideo std n p =
    ({ m.score std p with tracker := hypPattern h, filmPos := some m.hyps[h].position, mismatch := 0 },
      some m.hyps[h].position) := by
  simp only [Monitor.judgeVideo, hw, Monitor.score_hyps]

theorem Monitor.judgeVideo_of_no_winner (hw : (m.score std p).winner std n = none) :
    m.judgeVideo std n p = (m.score std p, none) := by
  simp only [Monitor.judgeVideo, hw]

/-- A lock or not, the hypotheses are those that the pair was scored on. -/
theorem Monitor.judgeVideo_hyps : (m.judgeVideo std n p).1.hyps[h] = ⟨m.hyps[h].position, m.scoredRun std p h⟩ := by
  cases hw : (m.score std p).winner std n with
  | none => rw [Monitor.judgeVideo_of_no_winner hw, Monitor.score_hyps]
  | some k => rw [Monitor.judgeVideo_of_winner hw, Monitor.score_hyps]

/-- A FILM state is entered from VIDEO by the lock of an enabled hypothesis that the pair matches and takes to
lockCount (R75). -/
theorem Monitor.judge_enters_film (hv : m.tracker = .video) (hrun : ∀ h : Fin 7, m.hyps[h].run < set.lockCount)
    (hfilm : (m.judge set false held a r).1.tracker ≠ .video) :
    held = false ∧ set.cadenceEnable = true ∧ ∃ x y h, a = some x ∧ r = some y ∧ hypEnabled set.standard h = true ∧
      hypPattern h = (m.judge set false held a r).1.tracker ∧
      expectedPair (hypPattern h) m.hyps[h].position = (x, y) ∧ m.hyps[h].run + 1 = set.lockCount ∧
      (m.judge set false held a r).2 = some m.hyps[h].position := by
  cases held with
  | true => rw [Monitor.judge_of_held] at hfilm; exact absurd rfl hfilm
  | false =>
    rcases m.judge_cases set a r with hj | ⟨x, y, rfl, rfl, ⟨-, hc, hj⟩ | ⟨hf, -⟩⟩
    · rw [hj] at hfilm; exact absurd hv hfilm
    · rw [hj] at hfilm ⊢
      cases hw : (m.score set.standard (x, y)).winner set.standard set.lockCount with
      | none => rw [Monitor.judgeVideo_of_no_winner hw] at hfilm; exact absurd hv hfilm
      | some h =>
        obtain ⟨hen, hlock⟩ := Monitor.atLock_score.1 (Monitor.atLock_of_winner hw)
        rw [Monitor.scoredRun, if_pos hen] at hlock
        obtain ⟨hpair, hnext⟩ := scoreRun_reaches (hrun h) hlock
        rw [Monitor.judgeVideo_of_winner hw]
        exact ⟨rfl, hc, x, y, h, rfl, rfl, hen, rfl, hpair, hnext, rfl⟩
    · exact absurd hv hf

/-! ## Judging in FILM (R76, R77) -/

theorem Monitor.judgeFilm_eq (hm : m.mismatch ≤ 2) : m.judgeFilm pos (x, y) =
    if (x, y) = expectedPair m.tracker pos then ({ m with mismatch := 0 }, some pos)
    else if (expectedPair m.tracker pos).1 = true ∧ x = false then (m.resetTracker, none)
    else if x = true ∧ y = true then (m, some pos)
    else if m.mismatch = 2 then (m.resetTracker, none)
    else ({ m with mismatch := m.mismatch + 1 }, some pos) := by
  have hthird : 3 ≤ m.mismatch + 1 ↔ m.mismatch = 2 := by omega
  simp [Monitor.judgeFilm, hthird]

/-! ## Positions (R73) -/

theorem Monitor.judgeFilm_position (m : Monitor) (h : Fin 7) :
    (m.judgeFilm pos p).1.hyps[h].position = m.hyps[h].position := by
  unfold Monitor.judgeFilm
  dsimp only
  split
  · rfl
  split
  · exact m.resetTracker_position h
  split
  · rfl
  split
  · exact m.resetTracker_position h
  · rfl

/-- A judgement leaves every hypothesis at its position. -/
theorem Monitor.judge_position (m : Monitor) (h : Fin 7) :
    (m.judge set disc held a r).1.hyps[h].position = m.hyps[h].position := by
  have hjudged (m : Monitor) : (m.judge set false held a r).1.hyps[h].position = m.hyps[h].position := by
    cases held with
    | true => rw [Monitor.judge_of_held, m.resetTracker_position]
    | false =>
      rcases m.judge_cases set a r with hj | ⟨x, y, -, -, ⟨-, -, hj⟩ | ⟨-, pos, hj⟩⟩
      · rw [hj]
      · rw [hj, Monitor.judgeVideo_hyps]
      · rw [hj, Monitor.judgeFilm_position]
  cases disc with
  | false => exact hjudged m
  | true => rw [Monitor.judge_of_discontinuity, hjudged, Monitor.resetTracker_position]

/-! ## The obligation -/

/-- Settles O22: the ways of a judgement; a FILM state behind a discontinuity mark is entered from the reset tracker. -/
theorem trackerLocksAndBreaks : Obligations.TrackerLocksAndBreaks := by
  refine ⟨fun m => ⟨rfl, rfl, rfl, m.resetTracker_hyps⟩, fun m set hok => ?_⟩
  obtain ⟨-, hmis, hvideo, -⟩ := hok
  refine ⟨fun _ _ _ => Monitor.judge_of_discontinuity, fun _ _ => Monitor.judge_of_held, ?unjudged, ?runs, ?entered,
    ?film⟩
  case unjudged =>
    rintro a r (ha | hr | ⟨hv, hoff⟩)
    · exact Monitor.judge_of_not_fullyMeasured (.inl ha)
    · exact Monitor.judge_of_not_fullyMeasured (.inr hr)
    · rcases m.judge_cases set a r with hj | ⟨x, y, -, -, ⟨-, hc, -⟩ | ⟨hf, -⟩⟩
      · exact hj
      · exact absurd hc (Bool.eq_false_iff.1 hoff)
      · exact absurd hv hf
  case runs =>
    intro x y run best hv hc hrun hbest
    have hscored : m.scoredRun set.standard (x, y) = run := funext fun h => Monitor.scoredRun_eq.trans (hrun h).symm
    have hlock (h : Fin 7) : (m.score set.standard (x, y)).atLock set.standard set.lockCount h = true ↔
        hypEnabled set.standard h = true ∧ run h = set.lockCount := by rw [Monitor.atLock_score, hscored]
    have hjudge := (Monitor.judge_of_video (x := x) (y := y) hv).trans (if_pos hc)
    refine ⟨_, _, hjudge.trans Prod.mk.eta.symm, fun h => ?_, fun h hh => ?_, fun hno => ?_⟩
    · rw [Monitor.judgeVideo_hyps, hscored]
    · obtain ⟨hen, hreach, hfirst⟩ := (hbest h).1 hh
      have hw := Monitor.winner_of_best ((hlock h).2 ⟨hen, hreach⟩) fun k hk => by
        obtain ⟨hken, hkreach⟩ := (hlock k).1 hk
        exact hfirst k hken hkreach
      rw [Monitor.judgeVideo_of_winner hw]
      exact ⟨rfl, rfl, rfl, rfl⟩
    · have hw := Monitor.winner_of_none fun k hk => hno k ((hlock k).1 hk).1 ((hlock k).1 hk).2
      rw [Monitor.judgeVideo_of_no_winner hw]
      exact ⟨hv, (hvideo hv).1, rfl, rfl⟩
  case entered =>
    intro disc held a r hv hfilm
    have hrun := (hvideo hv).2
    cases disc with
    | false =>
      obtain ⟨hheld, hc, x, y, h, ha, hr, hen, hpat, hpair, hnext, hpos⟩ := Monitor.judge_enters_film hv hrun hfilm
      exact ⟨hheld, hc, x, y, h, ha, hr, hen, hpat, hpair, fun _ => hnext, hpos⟩
    | true =>
      rw [Monitor.judge_of_discontinuity] at hfilm ⊢
      have hzero (h : Fin 7) : m.resetTracker.hyps[h].run < set.lockCount := by
        rw [m.resetTracker_hyps]; exact (Nat.zero_le _).trans_lt (hrun h)
      obtain ⟨hheld, hc, x, y, h, ha, hr, hen, hpat, hpair, -, hpos⟩ := Monitor.judge_enters_film rfl hzero hfilm
      rw [m.resetTracker_hyps] at hpair hpos
      exact ⟨hheld, hc, x, y, h, ha, hr, hen, hpat, hpair, nofun, hpos⟩
  case film =>
    intro pos x y hf hp
    rw [Monitor.judge_of_film hf hp, Monitor.judgeFilm_eq hmis]

end
end Sys2Proof.Machine

/-! SUPPORT. The three measures as the rounded grid sums of the samples they compare, and the part after the Cadence
Monitor's event.
    PROOFS. Settles O21. -/
namespace Sys2Proof.Machine
section
variable {d : Device} {l : Lane} {i k : SlotId} {r : FieldRecord} {s : State} {std : Standard} {m : Monitor}
  {f yn yp : Nat → Nat → Nat} {g : Nat → Nat → Int} {b c v y x : Nat} {p : Parity} {note : Notice}

/-! ## The grid (R64) -/

/-- The grid sum of integers. -/
def gridTotal (std : Standard) (g : Nat → Nat → Int) : Int :=
  ((List.range std.lines).map fun y => ((List.range 90).map fun k => g y (8 * k)).sum).sum

theorem gridSum_cast (h : ∀ y x, (f y x : Int) = g y x) : (gridSum std f : Int) = gridTotal std g := by
  have hline (y : Nat) : ((((List.range 90).map fun k => f y (8 * k)).sum : Nat) : Int) =
      ((List.range 90).map fun k => g y (8 * k)).sum := by
    rw [Nat.cast_list_sum, List.map_map]
    exact congrArg List.sum (List.map_congr_left fun k _ => h y (8 * k))
  rw [gridSum, Nat.cast_list_sum, List.map_map]
  exact congrArg List.sum (List.map_congr_left fun y _ => hline y)

theorem gridSum_le (h : ∀ y x, f y x ≤ b) : gridSum std f ≤ gridCount std * b := by
  have hline (y : Nat) : ((List.range 90).map fun k => f y (8 * k)).sum ≤ 90 * b := by
    refine (List.sum_le_card_nsmul _ b ?_).trans (by simp)
    exact List.forall_mem_map.2 fun k _ => h y _
  refine (List.sum_le_card_nsmul _ (90 * b) (List.forall_mem_map.2 fun y _ => hline y)).trans ?_
  simp only [List.length_map, List.length_range, smul_eq_mul, gridCount]
  exact le_of_eq (by ring)

/-- A measure: `c` times the grid sum over the grid count, rounded down. -/
theorem gridMean_cast (h : ∀ y x, (f y x : Int) = g y x) : ((c * gridSum std f / gridCount std : Nat) : Int) =
    c * gridTotal std g / gridCount std := by
  rw [← gridSum_cast h, Int.natCast_ediv, Nat.cast_mul]

theorem gridMean_le (h : ∀ y x, f y x ≤ b) : c * gridSum std f / gridCount std ≤ c * b :=
  Nat.div_le_of_le_mul ((Nat.mul_le_mul_left c (gridSum_le h)).trans (le_of_eq (by ring)))

/-! ## The terms of the sums (R65, R66, R67) -/

theorem Dram.luma_le (m : Dram) (i : SlotId) (y x : Nat) : m.luma i y x ≤ 1023 := Nat.le_of_lt_succ (BitVec.isLt _)

theorem absDiff_cast (a b : Nat) : (absDiff a b : Int) = ((a - b : Int).natAbs : Int) := by
  unfold absDiff; omega

theorem absDiff_le {a b top : Nat} (ha : a ≤ top) (hb : b ≤ top) : absDiff a b ≤ top := by
  unfold absDiff; omega

theorem combTerm_cast : (combTerm std p yn yp y x : Int) = ((2 * yn y x -
    yp ((if 2 * y + p.val = 0 then 1 else 2 * y + p.val - 1) / 2) x -
    yp ((if 2 * y + p.val + 1 = 2 * std.lines then 2 * y + p.val - 1
      else 2 * y + p.val + 1) / 2) x : Int).natAbs : Int) := by
  have habove : lineAbove (2 * y + p.val) = if 2 * y + p.val = 0 then 1 else 2 * y + p.val - 1 := by
    unfold lineAbove; split <;> omega
  rw [combTerm, habove, lineBelow, Standard.frameLines, absDiff_cast, Nat.cast_mul, Nat.cast_add, sub_sub]
  rfl

theorem combTerm_le (hn : ∀ y x, yn y x ≤ 1023) (hp : ∀ y x, yp y x ≤ 1023) : combTerm std p yn yp y x ≤ 2046 :=
  absDiff_le (Nat.mul_le_mul_left 2 (hn y x)) (Nat.add_le_add (hp _ x) (hp _ x))

/-! ## The measures of a field -/

theorem Device.dsame_eq_some : d.dsame l i r = some v ↔
    ∃ k rp, d.earlier l r.sequence 2 = some k ∧ d.record k = some rp ∧ rp.parity = r.parity ∧
      v = dsameValue (d.lane l).settings.standard (d.dram.luma i) (d.dram.luma k) := by
  cases hk : d.earlier l r.sequence 2 with
  | none => simp [Device.dsame, hk]
  | some k => cases hr : d.record k <;> simp [Device.dsame, hk, hr, eq_comm]

theorem Device.dadj_eq_some : d.dadj l i r = some v ↔ ∃ k, d.earlier l r.sequence 1 = some k ∧
    v = dadjValue (d.lane l).settings.standard r.parity (d.dram.luma i) (d.dram.luma k) := by
  simp [Device.dadj, eq_comm]

theorem Device.dsame_isSome : (d.dsame l i r).isSome = true ↔
    ∃ k rp, d.earlier l r.sequence 2 = some k ∧ d.record k = some rp ∧ rp.parity = r.parity := by
  simp [Option.isSome_iff_exists, Device.dsame_eq_some]

theorem Device.level_le : d.level l i ≤ 16368 := gridMean_le (c := 16) fun _ _ => Dram.luma_le _ _ _ _

theorem Device.dsame_le (h : d.dsame l i r = some v) : v ≤ 16368 := by
  obtain ⟨k, -, -, -, -, rfl⟩ := Device.dsame_eq_some.1 h
  exact gridMean_le (c := 16) fun _ _ => absDiff_le (Dram.luma_le _ _ _ _) (Dram.luma_le _ _ _ _)

theorem Device.dadj_le (h : d.dadj l i r = some v) : v ≤ 16368 := by
  obtain ⟨k, -, rfl⟩ := Device.dadj_eq_some.1 h
  exact gridMean_le (c := 8) fun _ _ => combTerm_le (Dram.luma_le _ _) (Dram.luma_le _ _)

/-! ## The tracker moves on (R73) -/

theorem hypPattern_period (h : Fin 7) : (hypPattern h).period = if h.val < 2 then 2 else 5 := by
  unfold hypPattern; split <;> rfl

theorem Monitor.advance_hyps (m : Monitor) (h : Fin 7) : m.advance.hyps[h] =
    ⟨(m.hyps[h].position + 1) % (if h.val < 2 then 2 else 5), m.hyps[h].run⟩ := by
  simp [Monitor.advance, hypPattern_period]

theorem Monitor.advance_filmPos (m : Monitor) : m.advance.filmPos =
    if m.tracker = .video then m.filmPos else m.filmPos.map fun p => (p + 1) % m.tracker.period := by
  cases h : m.tracker <;> simp [Monitor.advance, h]

/-! ## The event (R63, R68, R81, R82) -/

theorem Link.offerGeneral_of_room {k : Link} {mask : NoticeMask} (hm : mask.enables note = true) (hg : k.generals < 8) :
    k.offerGeneral mask note = k.join (.notice note) := by
  rcases Link.offerGeneral_cases k mask note with ⟨hoff, -⟩ | ⟨-, hfull, -⟩ | ⟨-, -, hjoin⟩
  · exact absurd hm (Bool.eq_false_iff.1 hoff)
  · exact absurd hg (not_lt.2 hfull)
  · exact hjoin

/-- A general notice, alone in its event: the link takes it, drops it or counts it lost (R170). -/
theorem State.event_of_general {w : Ev → Ev} (h : w (Ev.start s.dev) = (Ev.start d).note note) (hn : note.rank ≠ 3) :
    s.event w = { s with dev := d, link := s.link.offerGeneral d.handler.mask note } := by
  have hnotes : orderNotices ((Ev.start d).note note).notes = [note] := by
    cases note <;> rfl
  rw [State.event, h, Ev.commit, hnotes]
  cases note with
  | completion c => exact absurd rfl hn
  | lock | cadence | overrun => rfl

/-- What the tracker makes of the field `r` of lane `l` in slot `i`. -/
def Device.judgement (d : Device) (l : Lane) (i : SlotId) (r : FieldRecord) : Monitor × Option Nat :=
  (d.lane l).monitor.judge (d.lane l).settings r.discontinuity r.held
    (measureFlag (d.dadj l i r) (d.lane l).settings.combThr) (measureFlag (d.dsame l i r) (d.lane l).settings.repeatThr)

/-- The record of the field `r` of lane `l` in slot `i` after the event. -/
def Device.measured (d : Device) (l : Lane) (i : SlotId) (r : FieldRecord) : FieldRecord :=
  r.withMeasures (d.lane l).settings (d.dsame l i r) (d.dadj l i r) (d.level l i) (d.judgement l i r).1.tracker
    (d.judgement l i r).2

/-- The part after the Cadence Monitor's event for the field `r` of lane `l` in slot `i`. -/
def Device.withMeasured (d : Device) (l : Lane) (i : SlotId) (r : FieldRecord) : Device :=
  (d.modRecord i fun _ => d.measured l i r).modLane l fun u =>
    { u with monitor := (d.judgement l i r).1.advance, chain := some ⟨.controller, i⟩ }

/-- The link after the event: a change of the tracker's state offers it a CADENCE notice. -/
def State.cadenceLink (s : State) (l : Lane) (i : SlotId) (r : FieldRecord) : Link :=
  if (s.dev.judgement l i r).1.tracker = (s.dev.lane l).monitor.tracker then s.link
  else s.link.offerGeneral s.dev.handler.mask (.cadence l (s.dev.judgement l i r).1.tracker
    (s.dev.judgement l i r).1.advance.filmPos r.sequence)

/-- Writing the tracker's values at the end of a chain's event: the lane takes them, and a change of state is noted. -/
theorem Ev.setMonitor_start (q : Nat) : (Ev.start d).setMonitor l m q =
    if m.tracker = (d.lane l).monitor.tracker then Ev.start (d.modLane l fun u => { u with monitor := m })
    else (Ev.start (d.modLane l fun u => { u with monitor := m })).note (.cadence l m.tracker m.filmPos q) := rfl

theorem Ev.monitorField_eq (hr : d.record i = some r) : (Ev.start d).monitorField l i =
    if (d.judgement l i r).1.tracker = (d.lane l).monitor.tracker then Ev.start (d.withMeasured l i r)
    else (Ev.start (d.withMeasured l i r)).note (.cadence l (d.judgement l i r).1.tracker
      (d.judgement l i r).1.advance.filmPos r.sequence) := by
  have hlane : d.withMeasured l i r = ((d.modRecord i fun _ => d.measured l i r).modLane l fun u =>
      { u with monitor := (d.judgement l i r).1.advance }).modLane l fun u =>
        { u with chain := some ⟨.controller, i⟩ } := by rw [Device.modLane_modLane]; rfl
  have hwork : (Ev.start d).monitorField l i = ((Ev.start (d.modRecord i fun _ => d.measured l i r)).setMonitor l
      (d.judgement l i r).1.advance r.sequence).modLane l fun u => { u with chain := some ⟨.controller, i⟩ } := by
    have hrecord : (Ev.start d).dev.record i = some r := hr
    rw [Ev.monitorField, hrecord]
    rfl
  rw [hwork, Ev.setMonitor_start, Device.modRecord_lane, hlane]
  exact apply_ite (fun e : Ev => e.modLane l fun u => { u with chain := some ⟨.controller, i⟩ }) _ _ _

theorem exec_cadenceMonitorEvent (hc : (s.dev.lane l).chain = some ⟨.monitor, i⟩) (hr : s.dev.record i = some r) :
    exec (.cadenceMonitorEvent l) s =
      .next { s with dev := s.dev.withMeasured l i r, link := s.cadenceLink l i r } := by
  have hstage : (Ev.start s.dev).chainStage l .monitor = (Ev.start s.dev).monitorField l i := by
    have hc' : ((Ev.start s.dev).dev.lane l).chain = some ⟨.monitor, i⟩ := hc
    simp only [Ev.chainStage, Ev.chainStep, hc', if_true]
  refine congrArg Host.Outcome.next ?_
  by_cases ht : (s.dev.judgement l i r).1.tracker = (s.dev.lane l).monitor.tracker
  · rw [State.cadenceLink, if_pos ht]
    exact State.event_of_start (hstage.trans ((Ev.monitorField_eq hr).trans (if_pos ht)))
  · rw [State.cadenceLink, if_neg ht]
    exact State.event_of_general (hstage.trans ((Ev.monitorField_eq hr).trans (if_neg ht))) (by simp [Notice.rank])

theorem Device.withMeasured_lane : (d.withMeasured l i r).lane l = { d.lane l with
    monitor := (d.judgement l i r).1.advance, chain := some ⟨.controller, i⟩ } := Device.lane_modLane_self _ _ _

theorem Device.withMeasured_record (hr : d.record i = some r) :
    (d.withMeasured l i r).record i = some (d.measured l i r) := by
  have hslot : (d.withMeasured l i r).slot i =
      { d.slot i with record := (d.slot i).record.map fun _ => d.measured l i r } := Device.modRecord_slot_self _
  rw [Device.record, hslot, show (d.slot i).record = some r from hr]
  rfl

theorem Device.withMeasured_slot_of_ne (h : k ≠ i) : (d.withMeasured l i r).slot k = d.slot k :=
  Device.slot_setSlot_of_ne d _ h

/-! ## The obligation -/

/-- Settles O21: the record's values one measure after the other, then the tracker's, then the frame. -/
theorem monitorMeasuresField : Obligations.MonitorMeasuresField := by
  rintro s l i r _ _ grid luma hc hr rfl rfl hgrid hluma
  obtain rfl : grid = gridTotal (s.dev.lane l).settings.standard := funext hgrid
  have hexec := exec_cadenceMonitorEvent hc hr
  obtain ⟨hside, hpending⟩ := exec_outside rfl hexec
  obtain ⟨hlanes, hhandler, -⟩ := Device.sameOutside_of_outside hside
  have hl (k : SlotId) (y x : Nat) : (s.dev.dram.luma k y x : Int) = luma k y x := (hluma k y x).symm
  refine ⟨_, s.dev.measured l i r, s.dev.level l i, s.dev.judgement l i r, hexec, Device.withMeasured_record hr, rfl,
    ?level, Device.level_le, fun v => Device.dsame_le, fun v => Device.dadj_le, Option.isSome_map, Device.dsame_isSome,
    ?dsame, ?dadj, rfl, rfl, rfl, rfl, rfl, rfl, ?tracker, ?mismatch, ?filmPos, ?hyps, fun ht => if_pos ht, ?notice,
    by rw [Device.withMeasured_lane], fun k => Device.withMeasured_slot_of_ne, rfl, rfl, hlanes,
    by rw [Device.withMeasured_lane], by rw [Device.withMeasured_lane], hhandler, hpending⟩
  case level => exact gridMean_cast (c := 16) (hl i)
  case dsame =>
    intro k v hk hv
    obtain ⟨k', -, hk', -, -, rfl⟩ := Device.dsame_eq_some.1 hv
    obtain rfl := Option.some.inj (hk.symm.trans hk')
    exact gridMean_cast (c := 16) fun y x => by rw [absDiff_cast, hl, hl]
  case dadj =>
    intro k v hk hv
    obtain ⟨k', hk', rfl⟩ := Device.dadj_eq_some.1 hv
    obtain rfl := Option.some.inj (hk.symm.trans hk')
    exact gridMean_cast (c := 8) fun y x => by rw [combTerm_cast, hl, hl, hl]
  case tracker => rw [Device.withMeasured_lane]; rfl
  case mismatch => rw [Device.withMeasured_lane]; rfl
  case filmPos =>
    rw [Device.withMeasured_lane]
    refine (Monitor.advance_filmPos _).trans ?_
    cases (s.dev.judgement l i r).1.tracker <;> rfl
  case hyps =>
    intro n
    rw [Device.withMeasured_lane, Monitor.advance_hyps, Device.judgement, Monitor.judge_position]
  case notice =>
    intro ht hmask hroom
    refine (if_neg ht).trans ?_
    rw [Device.withMeasured_lane]
    exact Link.offerGeneral_of_room hmask hroom

end
end Sys2Proof.Machine

/-! SUPPORT. What the law of the frame buffers reads of the part: the Output Channels, the running job, and the pending jobs
that stand in another lane's queue. The events of the lanes leave all of it as it is; one equation for each of them. -/
namespace Sys2Proof.Machine
section
variable {d d' : Device} {e : Ev} {l k : Lane} {i : SlotId} {r : FieldRecord} {p : TransferParams} {q : Nat} {w b : Bool}
  {parity : Parity} {f : LaneUnit → LaneUnit}

/-! ## The screen -/

/-- The lanes of the jobs in lane `k`'s queue that are another lane's. -/
def LaneUnit.strays (k : Lane) (u : LaneUnit) : List Lane := (u.op.jobs.map Job.lane).filter fun m => m ≠ k

/-- What the law of the frame buffers reads (R94, R121, R122). -/
structure Screen where
  channels : Lane → Channel
  strays   : Lane → List Lane
  engine   : Engine

/-- The part of a device that the law of the frame buffers reads. -/
def Device.screen (d : Device) : Screen := ⟨fun k => (d.lane k).channel, fun k => (d.lane k).strays k, d.engine⟩

theorem LaneUnit.strays_eq_nil {u : LaneUnit} : u.strays k = [] ↔ ∀ j ∈ u.op.jobs, j.lane = k := by
  simp [LaneUnit.strays]

theorem Device.buffersOk_of_screen (h : d'.screen = d.screen) (hd : d.buffersOk) : d'.buffersOk := by
  have hchannel (k : Lane) : (d'.lane k).channel = (d.lane k).channel := congrArg (fun x => x.channels k) h
  have hstrays (k : Lane) : (d'.lane k).strays k = (d.lane k).strays k := congrArg (fun x => x.strays k) h
  have hengine : d'.engine = d.engine := congrArg Screen.engine h
  obtain ⟨hlanes, hrun⟩ := hd
  refine ⟨fun k => ⟨hchannel k ▸ (hlanes k).1, ?_⟩, fun j b hj hb => ?_⟩
  · rw [← LaneUnit.strays_eq_nil, hstrays, LaneUnit.strays_eq_nil]
    exact (hlanes k).2
  · rw [hchannel]
    exact hrun j b (hengine ▸ hj) hb

theorem Device.screen_of_lanes (hl : d'.lanes = d.lanes) (he : d'.engine = d.engine) : d'.screen = d.screen := by
  simp only [Device.screen, Device.lane, hl, he]

theorem Device.screen_modLane_of_strays (hc : (f (d.lane l)).channel = (d.lane l).channel)
    (hj : (f (d.lane l)).strays l = (d.lane l).strays l) : (d.modLane l f).screen = d.screen := by
  unfold Device.screen
  congr 1 <;> funext k <;> rw [Device.lane_modLane] <;> split
  · subst k; exact hc
  · rfl
  · subst k; exact hj
  · rfl

@[simp] theorem Device.screen_modLane (hc : (f (d.lane l)).channel = (d.lane l).channel)
    (hj : (f (d.lane l)).op.jobs = (d.lane l).op.jobs) : (d.modLane l f).screen = d.screen :=
  Device.screen_modLane_of_strays hc (by rw [LaneUnit.strays, hj]; rfl)

@[simp] theorem Device.screen_setSlot (y : Slot) : (d.setSlot i y).screen = d.screen := rfl
@[simp] theorem Device.screen_modRecord (g : FieldRecord → FieldRecord) : (d.modRecord i g).screen = d.screen := rfl
@[simp] theorem Device.screen_setDram (m : Dram) : (d.setDram m).screen = d.screen := rfl
@[simp] theorem Device.screen_setHandler (y : Handler) : ({ d with handler := y } : Device).screen = d.screen := rfl
@[simp] theorem Device.screen_giveBack (refs writing : List SlotId) : (d.giveBack refs writing).screen = d.screen :=
  Device.screen_of_lanes (d.giveBack_lanes refs writing) (d.giveBack_engine refs writing)
@[simp] theorem Device.screen_takeRefs (is : List SlotId) : (is.foldl Device.takeRef d).screen = d.screen :=
  Device.screen_of_lanes (d.takeRefs_lanes is) (d.takeRefs_engine is)

@[simp] theorem Ev.screen_modIngest (g : IngestLane → IngestLane) : (e.modIngest l g).dev.screen = e.dev.screen := by
  simp [Ev.modIngest]

@[simp] theorem Ev.screen_setChain (c : Option ChainField) : (e.setChain l c).dev.screen = e.dev.screen := by
  simp [Ev.setChain]

/-! ## Jobs -/

/-- A job that becomes READY stays its lane's. -/
@[simp] theorem Device.screen_readyWaiting (n : Option SlotId) : (d.readyWaiting l n).screen = d.screen := by
  cases hj : d.waitingJob l with
  | none => rw [Device.readyWaiting_of_none hj]
  | some j =>
    rw [Device.readyWaiting_of_waits hj, Device.screen_modLane_of_strays]
    · exact Device.screen_takeRefs _
    · rfl
    · have hlane : Job.lane ∘ d.readyJob n = Job.lane := funext fun _ => Device.readyJob_lane
      simp [LaneUnit.strays, hlane]

@[simp] theorem Ev.screen_readyWaiting (n : Option SlotId) : (e.readyWaiting l n).dev.screen = e.dev.screen :=
  Device.screen_readyWaiting n

/-- A new job is its lane's own. -/
@[simp] theorem Device.screen_createJob (y : Snapshot) : (d.createJob l i r y b).screen = d.screen := by
  rw [Device.createJob_eq, Device.screen_modLane_of_strays]
  · exact Device.screen_takeRefs _
  · rfl
  · simp [LaneUnit.strays, Controller.addJob, Device.newJob]

/-! ## The operations -/

@[simp] theorem Ev.screen_setMonitor (m : Monitor) : (e.setMonitor l m q).dev.screen = e.dev.screen := by
  simp [Ev.setMonitor_dev]

@[simp] theorem Ev.screen_resetTracker : (e.resetTracker l q).dev.screen = e.dev.screen := Ev.screen_setMonitor _

@[simp] theorem Ev.screen_complete (z : OpPart) : (e.complete l z).dev.screen = e.dev.screen := by
  simp [Ev.complete]

@[simp] theorem Ev.screen_endNow (c : EndClass) (y : Option Cause) (z : OpPart) :
    (e.endNow l c y z).dev.screen = e.dev.screen :=
  (Ev.screen_complete z).trans (Device.screen_modLane rfl rfl)

@[simp] theorem Ev.screen_settle : (e.settle l).dev.screen = e.dev.screen := by
  unfold Ev.settle
  repeat' split
  all_goals simp

@[simp] theorem Ev.screen_endTransfer (c : EndClass) (y : Option Cause) :
    (e.endTransfer l c y).dev.screen = e.dev.screen := by
  rw [Ev.endTransfer, Ev.screen_settle, Ev.modOp_dev, Device.screen_modLane rfl]
  dsimp only
  split <;> rfl

@[simp] theorem Ev.screen_sourceChange (y : LaneState) : (e.sourceChange l y).dev.screen = e.dev.screen := by
  unfold Ev.sourceChange
  dsimp only
  split <;> simp

@[simp] theorem Ev.screen_lockLoss (y : LaneState) (n : Option Nat) :
    (e.lockLoss l y n).dev.screen = e.dev.screen := by
  unfold Ev.lockLoss
  rw [Ev.screen_sourceChange]
  repeat' split
  all_goals simp

@[simp] theorem Ev.screen_discontinuity : (e.discontinuity l q).dev.screen = e.dev.screen := by
  simp [Ev.discontinuity]

@[simp] theorem Ev.screen_acquired : (e.acquired l).dev.screen = e.dev.screen := by
  unfold Ev.acquired
  split <;> simp

@[simp] theorem Ev.screen_abort : (e.abort l).dev.screen = e.dev.screen := by
  unfold Ev.abort
  split <;> simp

@[simp] theorem Ev.screen_waitExpiry : (e.waitExpiry l).dev.screen = e.dev.screen := by
  unfold Ev.waitExpiry
  dsimp only
  repeat' split
  all_goals simp

@[simp] theorem Ev.screen_windowEnd (y : SeenLevels) : (e.windowEnd l y).dev.screen = e.dev.screen := by
  unfold Ev.windowEnd
  split <;> simp

@[simp] theorem Ev.screen_watch (g : LineWatch → LineWatch) : (e.watch l g).dev.screen = e.dev.screen := by
  rw [Ev.watch, Ev.modOp_dev, Device.screen_modLane rfl]
  dsimp only
  split <;> rfl

@[simp] theorem Ev.screen_amend (y : SubState) (t : TransferEnd) : (e.amend l y p t).dev.screen = e.dev.screen := by
  unfold Ev.amend
  dsimp only
  split <;> simp

/-! ## The completion chain -/

@[simp] theorem Ev.screen_repairField : (e.repairField l i).dev.screen = e.dev.screen := by
  unfold Ev.repairField
  split
  · rfl
  · dsimp only
    rw [Ev.screen_setChain, Ev.modOp_dev, Device.screen_modLane rfl (Controller.count_jobs ..)]
    rfl

@[simp] theorem Device.screen_joinWindow : (d.joinWindow l i).screen = d.screen := by
  unfold Device.joinWindow
  dsimp only
  split
  · exact (Device.screen_giveBack _ _).trans (Device.screen_modLane rfl rfl)
  · exact Device.screen_modLane rfl rfl

@[simp] theorem Ev.screen_judgeLabel : (e.judgeLabel l i).dev.screen = e.dev.screen := by
  unfold Ev.judgeLabel
  split
  · rfl
  · dsimp only
    rw [Ev.screen_setChain, Ev.modDev_dev, Device.screen_joinWindow, Ev.modOp_dev, Device.screen_modLane rfl]
    · exact Device.screen_modLane rfl rfl
    · dsimp only
      split <;> simp

@[simp] theorem Ev.screen_monitorField : (e.monitorField l i).dev.screen = e.dev.screen := by
  unfold Ev.monitorField
  split <;> simp

@[simp] theorem Ev.screen_cueField (m : CueMode) (t n : Nat) : (e.cueField l r m t n).dev.screen = e.dev.screen := by
  unfold Ev.cueField
  dsimp only
  repeat' split
  all_goals simp

@[simp] theorem Ev.screen_scanField (y : ScanParams) : (e.scanField l r y).dev.screen = e.dev.screen := by
  unfold Ev.scanField
  dsimp only
  repeat' split
  all_goals simp

@[simp] theorem Ev.screen_testEnd : (e.testEnd l r).dev.screen = e.dev.screen := by
  unfold Ev.testEnd
  dsimp only
  repeat' split
  all_goals simp

@[simp] theorem Ev.screen_dueJob : (e.dueJob l i r p).dev.screen = e.dev.screen := by
  unfold Ev.dueJob
  dsimp only
  repeat' split
  all_goals simp

@[simp] theorem Ev.screen_judgeRunning : (e.judgeRunning l i r p b).dev.screen = e.dev.screen := by
  unfold Ev.judgeRunning
  dsimp only
  repeat' split
  all_goals simp

@[simp] theorem Ev.screen_judgeArmed : (e.judgeArmed l i r p).dev.screen = e.dev.screen := by
  unfold Ev.judgeArmed
  dsimp only
  repeat' split
  all_goals simp

@[simp] theorem Ev.screen_operationField : (e.operationField l i r).dev.screen = e.dev.screen := by
  unfold Ev.operationField
  split <;> simp

@[simp] theorem Ev.screen_takeField : (e.takeField l i).dev.screen = e.dev.screen := by
  unfold Ev.takeField
  split
  · rfl
  · dsimp only
    rw [Ev.screen_setChain, Ev.screen_operationField, Ev.modOp_dev, Device.screen_modLane rfl, Ev.screen_readyWaiting]
    dsimp only
    split <;> simp

@[simp] theorem Ev.screen_chainStep : (e.chainStep l).dev.screen = e.dev.screen := by
  unfold Ev.chainStep
  split <;> simp

@[simp] theorem Ev.screen_chainStage (y : ChainStage) : (e.chainStage l y).dev.screen = e.dev.screen := by
  unfold Ev.chainStage
  repeat' split
  all_goals simp

@[simp] theorem Ev.screen_finishChain : (e.finishChain l).dev.screen = e.dev.screen := by
  simp [Ev.finishChain]

/-! ## The Ingest Lane -/

@[simp] theorem Ev.screen_setLaneState (y : LaneState) : (e.setLaneState l y q).dev.screen = e.dev.screen := by
  simp [Ev.setLaneState]

@[simp] theorem Ev.screen_resetLaneBlocks : (e.resetLaneBlocks l q).dev.screen = e.dev.screen := by
  simp [Ev.resetLaneBlocks]

@[simp] theorem Ev.screen_enableLane : (e.enableLane l q).dev.screen = e.dev.screen := by
  simp [Ev.enableLane]

@[simp] theorem Ev.screen_lockedClose (n : Option Nat) : (e.lockedClose l w n q).dev.screen = e.dev.screen := by
  unfold Ev.lockedClose
  repeat' split
  all_goals simp

@[simp] theorem Ev.screen_seekingClose : (e.seekingClose l w q).dev.screen = e.dev.screen := by
  unfold Ev.seekingClose
  dsimp only
  repeat' split
  all_goals simp

@[simp] theorem Ev.screen_keepField (o : OpenField) : (e.keepField l i o).dev.screen = e.dev.screen := by
  simp [Ev.keepField]

@[simp] theorem Ev.screen_closeLocked (o : OpenField) (n : Option Parity) :
    (e.closeLocked l o n w q).ev.dev.screen = e.dev.screen := by
  unfold Ev.closeLocked
  dsimp only
  repeat' split
  all_goals simp

@[simp] theorem Ev.screen_closeOpenField : (e.closeOpenField l w q).ev.dev.screen = e.dev.screen := by
  unfold Ev.closeOpenField
  dsimp only
  repeat' split
  all_goals simp

@[simp] theorem Ev.screen_stopOnDrop : (e.stopOnDrop l).dev.screen = e.dev.screen := by
  unfold Ev.stopOnDrop
  repeat' split
  all_goals simp

@[simp] theorem Ev.screen_openEpisode : (e.openEpisode l q).dev.screen = e.dev.screen := by
  unfold Ev.openEpisode
  split <;> simp

@[simp] theorem Ev.screen_dropField : (e.dropField l q).dev.screen = e.dev.screen := by simp [Ev.dropField]

@[simp] theorem Device.screen_takeSlot : (d.takeSlot l i q parity b).screen = d.screen := Device.screen_modLane rfl rfl

@[simp] theorem Ev.screen_intake : (e.intake l q parity b).dev.screen = e.dev.screen := by
  unfold Ev.intake
  split <;> simp

@[simp] theorem Ev.screen_reenterLane (is : List SlotId) : (e.reenterLane l is).dev.screen = e.dev.screen := by
  unfold Ev.reenterLane
  dsimp only
  split <;> simp

@[simp] theorem Ev.screen_reportFieldStart : (e.reportFieldStart l).dev.screen = e.dev.screen := by
  unfold Ev.reportFieldStart
  dsimp only
  repeat' split
  all_goals simp

@[simp] theorem Ev.screen_openNewField : (e.openNewField l q parity b).dev.screen = e.dev.screen := by
  unfold Ev.openNewField
  dsimp only
  split <;> simp

@[simp] theorem Ev.screen_fieldStart : (e.fieldStart l parity b).dev.screen = e.dev.screen := by
  unfold Ev.fieldStart
  split
  · exact Ev.screen_watch _
  · unfold Ev.fieldStartEnabled
    dsimp only
    rw [Ev.screen_openNewField]
    repeat' split
    all_goals simp

@[simp] theorem Ev.screen_withOpenField (g : Standard → Dram → OpenField → OpenField × Dram) :
    (e.withOpenField l g).dev.screen = e.dev.screen := by
  unfold Ev.withOpenField
  dsimp only
  split <;> simp

@[simp] theorem Ev.screen_lineStart : (e.lineStart l).dev.screen = e.dev.screen := by
  unfold Ev.lineStart
  split <;> simp

@[simp] theorem Ev.screen_sampleWord (v : Sample) : (e.sampleWord l v w b).dev.screen = e.dev.screen := by
  unfold Ev.sampleWord
  repeat' split
  all_goals simp

@[simp] theorem Ev.screen_labelWord (y : LabelWord) : (e.labelWord l y).dev.screen = e.dev.screen := by
  unfold Ev.labelWord
  split <;> simp

@[simp] theorem Ev.screen_timerExpiry : (e.timerExpiry l).dev.screen = e.dev.screen := by
  unfold Ev.timerExpiry Ev.loseSignal
  dsimp only
  repeat' split
  all_goals simp

end
end Sys2Proof.Machine

/-! SUPPORT. The requests, the resets, the link and the end of an event leave the frame buffers' law as it is. -/
namespace Sys2Proof.Machine
section
variable {d : Device} {e : Ev} {l : Lane} {r : Request} {s : State}

/-! ## The end of an event -/

@[simp] theorem Ev.screen_commit (k : Link) : (e.commit k).1.screen = e.dev.screen := by
  refine foldl_keeps issueNotice (fun p => p.1.screen) (fun p n => ?_) _ _
  cases n with
  | completion c =>
    rcases issueCompletion_cases p.1 p.2 c with ⟨-, h⟩ | ⟨-, h⟩
    · exact (congrArg (fun p => p.1.screen) h).trans (Device.screen_modLane rfl rfl)
    · exact congrArg (fun p => p.1.screen) h
  | _ => rfl

theorem State.buffersOk_event {f : Ev → Ev} (h : (f (Ev.start s.dev)).dev.buffersOk) : (s.event f).dev.buffersOk :=
  Device.buffersOk_of_screen (Ev.screen_commit _) h

/-- An event that the law does not see. -/
theorem State.buffersOk_event_of_screen {f : Ev → Ev} (hf : (f (Ev.start s.dev)).dev.screen = s.dev.screen)
    (h : s.dev.buffersOk) : (s.event f).dev.buffersOk :=
  State.buffersOk_event (Device.buffersOk_of_screen hf h)

theorem State.buffersOk_answer {a : Answer} (h : a.ev.dev.buffersOk) : (s.answer r a).dev.buffersOk :=
  Device.buffersOk_of_screen (Ev.screen_commit _) h

theorem State.buffersOk_request {kind : Nat} {f : Device → Request → Answer} (h : s.dev.buffersOk)
    (hf : ∀ r, (f s.dev r).ev.dev.buffersOk) : (s.request kind f).dev.buffersOk := by
  unfold State.request
  split
  · split
    · refine State.buffersOk_answer ?_
      split
      · exact hf _
      · exact h
    · exact h
  · exact h

theorem State.buffersOk_request_of_screen {kind : Nat} {f : Device → Request → Answer} (h : s.dev.buffersOk)
    (hf : ∀ r, (f s.dev r).ev.dev.screen = s.dev.screen) : (s.request kind f).dev.buffersOk :=
  State.buffersOk_request h fun r => Device.buffersOk_of_screen (hf r) h

/-! ## Requests that the law does not see -/

@[simp] theorem screen_refuse (c : RefusalCode) : (refuse d c).ev.dev.screen = d.screen := rfl
@[simp] theorem screen_done (data : List Byte) : (done e data).ev.dev.screen = e.dev.screen := rfl
@[simp] theorem screen_started (data : List Byte) : (started e data).ev.dev.screen = e.dev.screen := rfl

theorem screen_inspectRequest : (inspectRequest d r).ev.dev.screen = d.screen := by
  unfold inspectRequest
  dsimp only
  repeat' split
  all_goals simp

theorem screen_configureRequest : (configureRequest d r).ev.dev.screen = d.screen := by
  unfold configureRequest
  dsimp only
  repeat' split
  all_goals simp

theorem screen_loadProfileRequest : (loadProfileRequest d r).ev.dev.screen = d.screen := by
  unfold loadProfileRequest
  dsimp only
  repeat' split
  all_goals simp

theorem screen_setNoticesRequest : (setNoticesRequest d r).ev.dev.screen = d.screen := by
  unfold setNoticesRequest
  split <;> simp

theorem screen_setAccessRequest : (setAccessRequest d r).ev.dev.screen = d.screen := by
  unfold setAccessRequest
  dsimp only
  repeat' split
  all_goals simp

theorem screen_partitionRequest : (partitionRequest d r).ev.dev.screen = d.screen := by
  unfold partitionRequest
  repeat' split
  · rfl
  · rfl
  · rfl
  · exact foldl_keeps (Device.setQuota r.body) Device.screen (fun _ _ => Device.screen_modLane rfl rfl) _ _

theorem screen_setFilter (n : Fin 4) (f : FilterSet) : (d.setFilter n f).screen = d.screen := rfl

theorem screen_loadCoefficientsRequest : (loadCoefficientsRequest d r).ev.dev.screen = d.screen := by
  unfold loadCoefficientsRequest
  dsimp only
  repeat' split
  all_goals simp [screen_setFilter]

theorem screen_coefficientDataRequest : (coefficientDataRequest d r).ev.dev.screen = d.screen := by
  unfold coefficientDataRequest
  dsimp only
  repeat' split
  all_goals simp [screen_setFilter]

/-! ## Operation requests -/

/-- An accepted operation request leaves the pending jobs. -/
theorem screen_accept {g : Controller → Controller} (h : ∀ op, (g op).jobs = op.jobs) :
    ((Ev.start d).modOp l g).dev.screen = d.screen := Device.screen_modLane rfl (h _)

theorem screen_operationRequest {f : Lane → Answer} (h : ∀ l, (f l).ev.dev.screen = d.screen) :
    (operationRequest d r f).ev.dev.screen = d.screen := by
  unfold operationRequest
  repeat' split
  · rfl
  · rfl
  · exact h _

theorem screen_lockedLaneRequest {f : Lane → Answer} (h : ∀ l, (f l).ev.dev.screen = d.screen) :
    (lockedLaneRequest d r f).ev.dev.screen = d.screen := by
  refine screen_operationRequest fun l => ?_
  split
  · rfl
  · exact h l
  · rfl

theorem screen_acquireRequest : (acquireRequest d r).ev.dev.screen = d.screen := by
  refine screen_operationRequest fun l => ?_
  split
  · rfl
  · extract_lets st e e1
    have he : e.dev.screen = d.screen := screen_accept fun _ => rfl
    split
    · rfl
    · show e1.dev.screen = d.screen
      subst e1
      split
      · rw [Ev.screen_enableLane, he]
      · exact he

theorem screen_cueRequest : (cueRequest d r).ev.dev.screen = d.screen := by
  refine screen_lockedLaneRequest fun l => ?_
  split
  · rfl
  · exact screen_accept fun _ => rfl

theorem screen_transferRequest : (transferRequest d r).ev.dev.screen = d.screen := by
  refine screen_lockedLaneRequest fun l => ?_
  dsimp only
  repeat' split
  · rfl
  · rfl
  · exact screen_accept fun _ => rfl

theorem screen_scanRequest : (scanRequest d r).ev.dev.screen = d.screen := by
  refine screen_lockedLaneRequest fun l => ?_
  split
  · rfl
  · exact screen_accept fun _ => rfl

theorem screen_probeRequest : (probeRequest d r).ev.dev.screen = d.screen :=
  screen_lockedLaneRequest fun _ => screen_accept fun _ => rfl

theorem screen_lineTestRequest : (lineTestRequest d r).ev.dev.screen = d.screen := by
  refine screen_operationRequest fun l => ?_
  split
  · rfl
  · exact screen_accept fun _ => rfl

theorem screen_amendRequest : (amendRequest d r).ev.dev.screen = d.screen := by
  unfold amendRequest
  dsimp only
  repeat' split
  all_goals simp

/-! ## Resets, the self test and the link -/

/-- A part whose queues are empty and whose Render Engine runs no job. -/
theorem Device.buffersOk_of_blank (hl : ∀ k, (d.lane k).channel.queue = [] ∧ (d.lane k).op.jobs = [])
    (hr : d.engine.running = none) : d.buffersOk := by
  refine ⟨fun k => ⟨⟨?_, fun f hf => ?_⟩, fun j hj => ?_⟩, fun j b hj => ?_⟩
  · rw [(hl k).1]; exact List.nodup_nil
  · rw [(hl k).1] at hf; exact (List.not_mem_nil hf).elim
  · rw [(hl k).2] at hj; exact (List.not_mem_nil hj).elim
  · rw [hr] at hj; cases hj

theorem State.buffersOk_powerOn : s.powerOn.dev.buffersOk :=
  Device.buffersOk_of_blank (fun k => by rw [State.powerOn_lane]; exact ⟨rfl, rfl⟩) rfl

theorem State.buffersOk_resetRequest (h : s.dev.buffersOk) : s.resetRequest.dev.buffersOk := by
  unfold State.resetRequest
  repeat' split
  · exact Device.buffersOk_of_blank (fun k => by rw [Device.afterReset_lane]; exact ⟨rfl, rfl⟩) rfl
  · exact State.buffersOk_answer h
  · exact h
  · exact h

theorem State.buffersOk_selfTest (h : s.dev.buffersOk) : s.selfTest.dev.buffersOk := by
  unfold State.selfTest
  repeat' split
  · exact State.buffersOk_answer h
  · exact h
  · exact h
  · exact h

theorem State.buffersOk_endSelfTest (h : s.dev.buffersOk) (u : Option Nat) : (s.endSelfTest u).dev.buffersOk := by
  unfold State.endSelfTest
  split <;> exact h

theorem State.buffersOk_unknownKind (h : s.dev.buffersOk) : s.unknownKind.dev.buffersOk := by
  unfold State.unknownKind
  repeat' split
  · exact h
  · exact State.buffersOk_answer h
  · exact h

theorem screen_releaseHeld (k : Link) (m : Message) : (releaseHeld d k m).1.screen = d.screen := by
  unfold releaseHeld
  repeat' split
  · rfl
  · rfl
  · exact Device.screen_modLane rfl rfl

theorem State.buffersOk_byteTimeEnd (h : s.dev.buffersOk) (b : Byte) : (s.byteTimeEnd b).dev.buffersOk := by
  unfold State.byteTimeEnd
  split
  · show (endOutByte s.dev (s.link.startDue.receive b)).1.buffersOk
    unfold endOutByte recordLeaves
    dsimp only
    repeat' split
    · exact h
    · exact h
    · exact Device.buffersOk_of_screen (screen_releaseHeld _ _) h
    · exact h
  · exact h

end
end Sys2Proof.Machine

/-! PROOFS. Every step keeps the law of the frame buffers (R94, R96, R121, R122): a grant lends a FREE buffer, a completion
queues the LENT one, a send takes the queue's head through SENDING to FREE, and a cut frees the LENT one. -/
namespace Sys2Proof.Machine
section
variable {d : Device} {e : Ev} {l : Lane} {s t : State} {c : Channel} {f : Frame} {b : Fin 2} {x : BufferState}

/-! ## One channel -/

theorem Channel.setBuffer_get (c : Channel) (a b : Fin 2) (x : BufferState) :
    (c.setBuffer b x).buffers[a] = if a = b then x else c.buffers[a] := by
  simp [Channel.setBuffer, Vector.getElem_set, Fin.ext_iff, eq_comm]

theorem Channel.setBuffer_self : (c.setBuffer b x).buffers[b] = x := by rw [Channel.setBuffer_get, if_pos rfl]

theorem Channel.setBuffer_of_ne {a : Fin 2} (h : a ≠ b) : (c.setBuffer b x).buffers[a] = c.buffers[a] := by
  rw [Channel.setBuffer_get, if_neg h]

/-- A buffer that holds no frame of the queue may change. -/
theorem Channel.queueOk.setBuffer (h : c.queueOk) (hb : ∀ f ∈ c.queue, f.buffer ≠ b) : (c.setBuffer b x).queueOk :=
  ⟨h.1, fun f hf => by rw [Channel.setBuffer_of_ne (hb f hf)]; exact h.2 f hf⟩

/-- A buffer that is neither QUEUED nor SENDING holds no frame of the queue. -/
theorem Channel.queueOk.not_mem (h : c.queueOk) (hq : c.buffers[b] ≠ .queued) (hs : c.buffers[b] ≠ .sending) :
    ∀ f ∈ c.queue, f.buffer ≠ b := by
  rintro f hf rfl
  exact (h.2 f hf).elim hq hs

/-- A frame joins the tail of the queue in a buffer that held none. -/
theorem Channel.queueOk.enqueue (h : c.queueOk) (hb : ∀ g ∈ c.queue, g.buffer ≠ f.buffer) :
    ({ c.setBuffer f.buffer .queued with queue := c.queue ++ [f] } : Channel).queueOk := by
  refine ⟨?_, fun g hg => ?_⟩
  · show ((c.queue ++ [f]).map Frame.buffer).Nodup
    rw [List.map_append, List.nodup_append]
    refine ⟨h.1, List.nodup_singleton _, fun a ha a' ha' => ?_⟩
    obtain ⟨g, hg, rfl⟩ := List.mem_map.1 ha
    obtain rfl := List.mem_singleton.1 ha'
    exact hb g hg
  · rcases List.mem_append.1 hg with hg | hg
    · exact (h.setBuffer hb).2 g hg
    · obtain rfl := List.mem_singleton.1 hg
      exact .inl Channel.setBuffer_self

/-- The head frame leaves the queue, and its buffer is in use no more. -/
theorem Channel.queueOk.finishSend {rest : List Frame} (h : c.queueOk) (hq : c.queue = f :: rest) :
    (c.finishSend f).queueOk := by
  obtain ⟨hnodup, hstates⟩ := h
  rw [hq] at hnodup hstates
  obtain ⟨hf, hrest⟩ := List.nodup_cons.1 hnodup
  have htail : (c.finishSend f).queue = rest := by simp [Channel.finishSend, hq]
  refine ⟨htail ▸ hrest, fun g hg => ?_⟩
  rw [htail] at hg
  have hne : g.buffer ≠ f.buffer := fun hb => hf (List.mem_map.2 ⟨g, hg, hb⟩)
  show (c.setBuffer f.buffer .free).buffers[g.buffer] = _ ∨ (c.setBuffer f.buffer .free).buffers[g.buffer] = _
  rw [Channel.setBuffer_of_ne hne]
  exact hstates g (List.mem_cons_of_mem _ hg)

/-- The head frame's send begins. -/
theorem Channel.queueOk.startSend (h : c.queueOk) : c.startSend.queueOk := by
  unfold Channel.startSend
  split
  · refine ⟨h.1, fun g hg => ?_⟩
    rename_i f rest _ _ _
    show (c.setBuffer f.buffer .sending).buffers[g.buffer] = _ ∨ (c.setBuffer f.buffer .sending).buffers[g.buffer] = _
    rw [Channel.setBuffer_get]
    split
    · exact .inr rfl
    · exact h.2 g hg
  · exact h

/-- Two buffers hold at most two frames. -/
theorem Channel.queueOk.length_le (h : c.queueOk) : c.queue.length ≤ 2 := by
  have := h.1.length_le_card
  simpa using this

/-! ## The part -/

/-- A change of lane `l` that keeps its queue in order, its pending jobs its own and its running job's buffer LENT. -/
theorem Device.buffersOk.modLane {g : LaneUnit → LaneUnit} (h : d.buffersOk) (hq : (g (d.lane l)).channel.queueOk)
    (hj : ∀ j ∈ (g (d.lane l)).op.jobs, j ∈ (d.lane l).op.jobs)
    (hr : ∀ j b, d.engine.running = some j → j.buffer = some b → j.lane = l →
      (g (d.lane l)).channel.buffers[b] = .lent) : (d.modLane l g).buffersOk := by
  obtain ⟨hlanes, hrun⟩ := h
  refine ⟨fun k => ?_, fun j b he hb => ?_⟩ <;> rw [Device.lane_modLane] <;> split
  · subst k; exact ⟨hq, fun j hm => (hlanes l).2 j (hj j hm)⟩
  · exact hlanes k
  · exact hr j b he hb ‹_›
  · exact hrun j b he hb

/-- A change of one channel that leaves LENT buffers LENT. -/
theorem Ev.buffersOk_modChannel {g : Channel → Channel} (h : e.dev.buffersOk) (hq : (g (e.dev.lane l).channel).queueOk)
    (hlent : ∀ b : Fin 2, (e.dev.lane l).channel.buffers[b] = .lent → (g (e.dev.lane l).channel).buffers[b] = .lent) :
    (e.modChannel l g).dev.buffersOk :=
  Device.buffersOk.modLane (g := fun u => { u with channel := g u.channel }) h hq (fun _ => id)
    fun j b he hb hl => hlent b (hl ▸ h.2 j b he hb)

/-- A change of one channel that leaves its buffers and its queue. -/
theorem Ev.buffersOk_modChannel_same {g : Channel → Channel} (h : e.dev.buffersOk)
    (hb : (g (e.dev.lane l).channel).buffers = (e.dev.lane l).channel.buffers)
    (hq : (g (e.dev.lane l).channel).queue = (e.dev.lane l).channel.queue) : (e.modChannel l g).dev.buffersOk := by
  refine Ev.buffersOk_modChannel h ?_ fun b hl => by rw [hb]; exact hl
  unfold Channel.queueOk
  rw [hb, hq]
  exact (h.1 l).1

/-- The Render Engine without a job. -/
theorem Device.buffersOk.stopEngine {p : Lane} (h : d.buffersOk) :
    ({ d with engine := ⟨none, p⟩ } : Device).buffersOk := ⟨h.1, fun _ _ hj => by cases hj⟩

/-- The Render Engine takes a job whose buffer is LENT. -/
theorem Device.buffersOk.startEngine {j : Job} {p : Lane} (h : d.buffersOk)
    (hb : ∀ b, j.buffer = some b → (d.lane j.lane).channel.buffers[b] = .lent) :
    ({ d with engine := ⟨some j, p⟩ } : Device).buffersOk :=
  ⟨h.1, fun _ b hj => by cases hj; exact hb b⟩

theorem Channel.freeBuffer_free (h : c.freeBuffer = some b) : c.buffers[b] = .free := by
  unfold Channel.freeBuffer at h
  split at h
  · cases h; assumption
  · split at h
    · cases h; assumption
    · cases h

theorem Device.buffersOk.grantTo (h : d.buffersOk) (hr : d.engine.running = none) : (d.grantTo l).buffersOk := by
  unfold Device.grantTo
  split
  · rename_i j rest b hj hb
    have hfree := Channel.freeBuffer_free hb
    obtain ⟨hq, hown⟩ := h.1 l
    have hlane : j.lane = l := hown j (by rw [hj]; exact List.mem_cons_self)
    have hlend : (d.modLane l fun u => { u with
        op := { u.op with jobs := rest }, channel := u.channel.setBuffer b .lent }).buffersOk :=
      h.modLane (hq.setBuffer (hq.not_mem (by rw [hfree]; decide) (by rw [hfree]; decide)))
        (fun m hm => by rw [hj]; exact List.mem_cons_of_mem _ hm) (fun _ _ he => by rw [hr] at he; cases he)
    refine hlend.startEngine fun b' hb' => ?_
    cases hb'
    show ((d.modLane l _).lane j.lane).channel.buffers[b] = _
    rw [hlane, Device.lane_modLane_self]
    exact Channel.setBuffer_self
  · exact h

/-- The running job's buffer holds no frame. -/
theorem Device.buffersOk.running_not_mem {j : Job} (h : d.buffersOk) (hj : d.engine.running = some j)
    (hb : j.buffer = some b) : ∀ f ∈ (d.lane j.lane).channel.queue, f.buffer ≠ b := by
  have hlent := h.2 j b hj hb
  exact (h.1 j.lane).1.not_mem (by rw [hlent]; decide) (by rw [hlent]; decide)

theorem Device.buffersOk.completeJob {j : Job} (h : d.buffersOk) (hj : d.engine.running = some j)
    (hb : j.buffer = some b) : (d.completeJob j b).buffersOk := by
  have hdone : (({ d with engine := ⟨none, d.engine.pointer⟩ } : Device).modLane j.lane fun u =>
      { u with channel := { u.channel.setBuffer b .queued with queue := u.channel.queue ++ [j.frame b] } }).buffersOk :=
    h.stopEngine.modLane ((h.1 j.lane).1.enqueue (f := j.frame b) (h.running_not_mem hj hb)) (fun _ => id)
      (fun _ _ he => by cases he)
  exact Device.buffersOk_of_screen (Device.screen_giveBack _ _) hdone

theorem Device.buffersOk.cutRunning (h : d.buffersOk) : (d.cutRunning l).buffersOk := by
  unfold Device.cutRunning
  split
  · rename_i j hrun
    obtain ⟨hj, -⟩ := Device.runningOf_lane hrun
    unfold Device.returnBuffer
    split
    · rename_i b hb
      have hcut : (({ d with engine := ⟨none, d.engine.pointer⟩ } : Device).modLane j.lane fun u =>
          { u with channel := u.channel.setBuffer b .free }).buffersOk :=
        h.stopEngine.modLane ((h.1 j.lane).1.setBuffer (h.running_not_mem hj hb)) (fun _ => id)
          (fun _ _ he => by cases he)
      exact hcut
    · exact h.stopEngine
  · exact h

theorem Device.buffersOk.discardJobs {x y : List SlotId} (h : d.buffersOk) : (d.discardJobs l x y).buffersOk := by
  have hcut : (d.cutJobs l).buffersOk := h.cutRunning.modLane (h.cutRunning.1 l).1
    (fun _ hm => (List.not_mem_nil hm).elim) fun j b hj hb hl => by subst hl; exact h.cutRunning.2 j b hj hb
  exact Device.buffersOk_of_screen (Device.screen_giveBack _ _) hcut

theorem Ev.buffersOk_sendCompletion (h : e.dev.buffersOk) : (e.sendCompletion l).dev.buffersOk := by
  unfold Ev.sendCompletion
  split
  · rename_i f hf
    obtain ⟨rest, hq⟩ : ∃ rest, (e.dev.lane l).channel.queue = f :: rest := by
      unfold Channel.finishing at hf
      split at hf <;> cases hf
      exact ⟨_, ‹_›⟩
    have hfinish : (e.modChannel l fun c => c.finishSend f).dev.buffersOk := by
      refine Ev.buffersOk_modChannel h ((h.1 l).1.finishSend hq) fun b hlent => ?_
      have hne : b ≠ f.buffer := by
        rintro rfl
        have := (h.1 l).1.2 f (by rw [hq]; exact List.mem_cons_self)
        rw [hlent] at this
        exact this.elim nofun nofun
      exact (Channel.setBuffer_of_ne hne).trans hlent
    have hjobs (op : Controller) : (op.frameSent f).jobs = op.jobs := congrArg Prod.fst (op.holds_frameSent f)
    exact Device.buffersOk_of_screen (Ev.screen_settle.trans (Device.screen_modLane rfl (hjobs _))) hfinish
  · exact h

theorem Channel.startSend_lent (hq : c.queueOk) (hb : c.buffers[b] = .lent) : c.startSend.buffers[b] = .lent := by
  unfold Channel.startSend
  split
  · rename_i f rest _ hqueue _
    have hne : b ≠ f.buffer := by
      rintro rfl
      have := hq.2 f (by rw [hqueue]; exact List.mem_cons_self)
      rw [hb] at this
      exact this.elim nofun nofun
    exact (Channel.setBuffer_of_ne hne).trans hb
  · exact hb

theorem Channel.endLine_queue (c : Channel) : c.endLine.buffers = c.buffers ∧ c.endLine.queue = c.queue := by
  unfold Channel.endLine
  repeat' split
  all_goals exact ⟨rfl, rfl⟩

theorem Channel.readyRise_queue (c : Channel) : c.readyRise.buffers = c.buffers ∧ c.readyRise.queue = c.queue := by
  unfold Channel.readyRise
  split <;> exact ⟨rfl, rfl⟩

theorem Ev.buffersOk_grant (h : e.dev.buffersOk) : e.grant.dev.buffersOk := by
  unfold Ev.grant
  split
  · exact h.grantTo ‹_›
  · exact h

theorem Ev.buffersOk_jobCompletion (h : e.dev.buffersOk) : e.jobCompletion.dev.buffersOk := by
  unfold Ev.jobCompletion
  split
  · split
    · exact h.completeJob ‹_› ‹_›
    · exact h
  · exact h

theorem Ev.buffersOk_releaseLane (h : e.dev.buffersOk) : (e.releaseLane l).dev.buffersOk := by
  unfold Ev.releaseLane
  extract_lets e1 u e2 e3
  have h2 : e2.dev.buffersOk := (Device.buffersOk_of_screen Ev.screen_abort h).discardJobs
  have h3 : e3.dev.buffersOk :=
    Device.buffersOk_of_screen (Ev.screen_resetLaneBlocks.trans (Device.screen_modLane rfl rfl)) h2
  rw [apply_ite Ev.dev, Ev.note_dev, ite_self]
  exact h3

theorem buffersOk_releaseRequest {r : Request} (h : d.buffersOk) : (releaseRequest d r).ev.dev.buffersOk := by
  unfold releaseRequest
  split
  · exact h
  · exact Ev.buffersOk_releaseLane h

theorem buffersOk_stopRequest {r : Request} (h : d.buffersOk) : (stopRequest d r).ev.dev.buffersOk := by
  unfold stopRequest
  repeat' split
  · exact h
  · exact h
  · exact (Device.buffersOk_of_screen (Ev.screen_abort (e := Ev.start d)) h).discardJobs

/-! ## Every command -/

/-- Every command keeps the law of the frame buffers. -/
theorem exec_buffersOk {c : Instr} (h : s.dev.buffersOk) (hx : exec c s = .next t) : t.dev.buffersOk := by
  cases c with
  | powerOnReset => cases hx; exact State.buffersOk_powerOn
  | reset => cases hx; exact State.buffersOk_resetRequest h
  | selfTest => cases hx; exact State.buffersOk_selfTest h
  | selfTestEnd u =>
    simp only [exec, execSelfTestEnd] at hx
    split at hx
    · cases hx; exact State.buffersOk_endSelfTest h u
    · cases hx
  | fieldStart l p b => cases hx; exact State.buffersOk_event_of_screen Ev.screen_fieldStart h
  | lineStart l => cases hx; exact State.buffersOk_event_of_screen Ev.screen_lineStart h
  | sampleWord l v a b => cases hx; exact State.buffersOk_event_of_screen (Ev.screen_sampleWord v) h
  | labelWord l w => cases hx; exact State.buffersOk_event_of_screen (Ev.screen_labelWord w) h
  | noSignalTimerExpiry l => cases hx; exact State.buffersOk_event_of_screen Ev.screen_timerExpiry h
  | dropoutRepair l => cases hx; exact State.buffersOk_event_of_screen (Ev.screen_chainStage _) h
  | labelJudgement l => cases hx; exact State.buffersOk_event_of_screen (Ev.screen_chainStage _) h
  | cadenceMonitorEvent l => cases hx; exact State.buffersOk_event_of_screen (Ev.screen_chainStage _) h
  | fieldTaken l => cases hx; exact State.buffersOk_event_of_screen (Ev.screen_chainStage _) h
  | waitTimerExpiry l => cases hx; exact State.buffersOk_event_of_screen Ev.screen_waitExpiry h
  | testWindowEnd l x => cases hx; exact State.buffersOk_event_of_screen (Ev.screen_windowEnd x) h
  | grant => cases hx; exact State.buffersOk_event (Ev.buffersOk_grant h)
  | jobCompletion => cases hx; exact State.buffersOk_event (Ev.buffersOk_jobCompletion h)
  | sendStart l =>
    cases hx
    exact State.buffersOk_event (Ev.buffersOk_modChannel h (h.1 l).1.startSend fun _ => Channel.startSend_lent (h.1 l).1)
  | outputLineEnd l =>
    cases hx
    exact State.buffersOk_event (Ev.buffersOk_modChannel_same h (Channel.endLine_queue _).1 (Channel.endLine_queue _).2)
  | recorderReadyRise l =>
    cases hx
    exact State.buffersOk_event
      (Ev.buffersOk_modChannel_same h (Channel.readyRise_queue _).1 (Channel.readyRise_queue _).2)
  | recorderReadyFall l => cases hx; exact State.buffersOk_event (Ev.buffersOk_modChannel_same h rfl rfl)
  | sendCompletion l => cases hx; exact State.buffersOk_event (Ev.buffersOk_sendCompletion h)
  | strapFall => cases hx; exact h
  | strapRise => cases hx; exact h
  | selectRise => cases hx; exact h
  | selectFall => cases hx; exact h
  | recordStartOut => cases hx; exact h
  | frameReceived b =>
    simp only [exec, execFrameReceived] at hx
    split at hx <;> cases hx
    · exact State.buffersOk_byteTimeEnd h b
    · exact h
  | lengthFormatError b =>
    simp only [exec, execLengthFormatError] at hx
    split at hx <;> cases hx
    · exact State.buffersOk_byteTimeEnd h b
    · exact h
  | recordSent b =>
    simp only [exec, execRecordSent] at hx
    split at hx <;> cases hx
    · exact State.buffersOk_byteTimeEnd h b
    · exact h
  | byteTimeEnd b => cases hx; exact State.buffersOk_byteTimeEnd h b
  | status => cases hx; exact State.buffersOk_request_of_screen h fun _ => rfl
  | capabilities => cases hx; exact State.buffersOk_request_of_screen h fun _ => rfl
  | inspectField => cases hx; exact State.buffersOk_request_of_screen h fun _ => screen_inspectRequest
  | loadProfile => cases hx; exact State.buffersOk_request_of_screen h fun _ => screen_loadProfileRequest
  | setNotices => cases hx; exact State.buffersOk_request_of_screen h fun _ => screen_setNoticesRequest
  | setAccess => cases hx; exact State.buffersOk_request_of_screen h fun _ => screen_setAccessRequest
  | loadCoefficients => cases hx; exact State.buffersOk_request_of_screen h fun _ => screen_loadCoefficientsRequest
  | coefficientData => cases hx; exact State.buffersOk_request_of_screen h fun _ => screen_coefficientDataRequest
  | configureLane => cases hx; exact State.buffersOk_request_of_screen h fun _ => screen_configureRequest
  | partition => cases hx; exact State.buffersOk_request_of_screen h fun _ => screen_partitionRequest
  | acquire => cases hx; exact State.buffersOk_request_of_screen h fun _ => screen_acquireRequest
  | release => cases hx; exact State.buffersOk_request h fun _ => buffersOk_releaseRequest h
  | cue => cases hx; exact State.buffersOk_request_of_screen h fun _ => screen_cueRequest
  | transfer => cases hx; exact State.buffersOk_request_of_screen h fun _ => screen_transferRequest
  | amend => cases hx; exact State.buffersOk_request_of_screen h fun _ => screen_amendRequest
  | scan => cases hx; exact State.buffersOk_request_of_screen h fun _ => screen_scanRequest
  | probe => cases hx; exact State.buffersOk_request_of_screen h fun _ => screen_probeRequest
  | lineTest => cases hx; exact State.buffersOk_request_of_screen h fun _ => screen_lineTestRequest
  | stop => cases hx; exact State.buffersOk_request h fun _ => buffersOk_stopRequest h
  | unknownKind => cases hx; exact State.buffersOk_unknownKind h

theorem step_buffersOk (h : s.dev.buffersOk) (hx : step s = .next t) : t.dev.buffersOk := by
  unfold step at hx
  split at hx
  · cases hx; exact h
  · rename_i c rest _
    exact exec_buffersOk (s := { s with pending := rest }) h hx

end

/-- Settles O58: every command keeps the law, and a queue in order has its frames in two buffers. -/
theorem everyStepKeepsFrameBuffers : Obligations.EveryStepKeepsFrameBuffers :=
  ⟨fun _ _ h hx => step_buffersOk h hx, fun _ h l => (h.1 l).1.length_le⟩

end Sys2Proof.Machine

/-! PROOFS. The blend of a missing line's two candidates (R105), and what each line of a reconstructed frame is built from
(R100 to R104, R106, R107). -/
namespace Sys2Proof.Machine
section
variable {k s t a b : Nat} {x : RenderInput} {p q f : FieldView} {y w : Nat}

/-! ## The blend (R105) -/

/-- The mixed difference lies between nothing and the whole difference. -/
theorem mixed_bounds {k D : Int} (h0 : 0 ≤ k) (hk : k ≤ 32767) :
    min 0 D ≤ (k * D + 16384) / 32768 ∧ (k * D + 16384) / 32768 ≤ max 0 D := by
  rcases le_total 0 D with hD | hD
  · have hlow : 0 ≤ k * D := mul_nonneg h0 hD
    have hhigh : k * D ≤ 32767 * D := mul_le_mul_of_nonneg_right hk hD
    omega
  · have hlow : 32767 * D ≤ k * D := mul_le_mul_of_nonpos_right hk hD
    have hhigh : k * D ≤ 0 := mul_nonpos_of_nonneg_of_nonpos h0 hD
    omega

/-- The sample before it is read as a natural number lies between its candidates, so the reading changes nothing. -/
theorem blend_spec (hk : k ≤ 32767) :
    (blend k s t : Int) = (t : Int) + ((k : Int) * ((s : Int) - (t : Int)) + 16384) / 32768 ∧
      min s t ≤ blend k s t ∧ blend k s t ≤ max s t := by
  have hmix := mixed_bounds (k := k) (D := (s : Int) - t) (by omega) (by omega)
  unfold blend
  omega

theorem blend_zero : blend 0 s t = t := by simp [blend]

/-- At the top of the mix factor the rounding makes up for the missing 1/32768 of a sample's difference. -/
theorem blend_top (hs : s ≤ 1023) (ht : t ≤ 1023) : blend 32767 s t = s := by
  have := (blend_spec (k := 32767) (s := s) (t := t) (by omega)).1
  omega

/-! ## The candidates -/

theorem midpoint_le (ha : a ≤ 1023) (hb : b ≤ 1023) : midpoint a b ≤ 1023 := by
  unfold midpoint
  omega

theorem mixAt_le : x.mixAt p q y w ≤ 32767 := by
  unfold RenderInput.mixAt mixFactor
  split
  · exact le_rfl
  · exact Nat.min_le_left _ _

theorem adaptiveWord_of_none (h : x.prev = none ∨ x.next = none) : x.adaptiveWord y w = x.spatial y w := by
  unfold RenderInput.adaptiveWord
  split
  · rename_i p q hp hq
    rw [hp, hq] at h
    exact h.elim nofun nofun
  · rfl

theorem adaptiveWord_of_some (hp : x.prev = some p) (hq : x.next = some q) : x.adaptiveWord y w =
    blend (x.mixAt p q y (decidingPosition w)) (x.spatial y w) (midpoint (p.word (y / 2) w) (q.word (y / 2) w)) := by
  simp only [RenderInput.adaptiveWord, hp, hq]

end

/-- Settles O30: the mixed difference lies between nothing and the whole difference of the candidates. -/
theorem blendStaysBetweenCandidates : Obligations.BlendStaysBetweenCandidates := by
  refine ⟨fun k s t hk hs ht => ?_, fun x y w => ⟨adaptiveWord_of_none, fun p q hp hq => ?_⟩⟩
  · obtain ⟨hvalue, hlow, hhigh⟩ := blend_spec (s := s) (t := t) hk
    refine ⟨hvalue, hlow, hhigh, ?_, ?_⟩
    · rintro rfl; exact blend_zero
    · rintro rfl; exact blend_top hs ht
  · exact ⟨_, mixAt_le, rfl, adaptiveWord_of_some hp hq⟩

section
variable {a b : Nat} {x : RenderInput} {p q f : FieldView} {y w : Nat}

/-! ## The lines of the frame (R100, R107) -/

theorem frameWord_of_own (h : y % 2 = x.self.parity.val) (mode : RenderMode) :
    x.frameWord mode y w = x.self.word (y / 2) w := if_pos h

theorem frameWord_adaptive (h : y % 2 ≠ x.self.parity.val) : x.frameWord .adaptive y w = x.adaptiveWord y w := if_neg h

theorem frameWord_weavePrev (h : y % 2 ≠ x.self.parity.val) (hp : x.prev = some p) :
    x.frameWord .weavePrev y w = x.weaveWord p y w := by
  simp only [RenderInput.frameWord, if_neg h, hp]

theorem frameWord_weaveNext (h : y % 2 ≠ x.self.parity.val) (hq : x.next = some q) :
    x.frameWord .weaveNext y w = x.weaveWord q y w := by
  simp only [RenderInput.frameWord, if_neg h, hq]

/-- A word of a missing line is woven from a listed partner, or adaptive. -/
theorem frameWord_cases (h : y % 2 ≠ x.self.parity.val) (mode : RenderMode) :
    x.frameWord mode y w = x.adaptiveWord y w ∨
      ∃ p, (x.prev = some p ∨ x.next = some p) ∧ x.frameWord mode y w = x.weaveWord p y w := by
  unfold RenderInput.frameWord
  rw [if_neg h]
  split
  · exact .inr ⟨_, .inl ‹_›, rfl⟩
  · exact .inr ⟨_, .inr ‹_›, rfl⟩
  · exact .inl rfl

/-! ## The motion measure (R101, R103) -/

theorem decidingPosition_luma (n : Nat) : decidingPosition (2 * n + 1) = n := by
  unfold decidingPosition
  rw [if_pos (by omega)]
  omega

theorem decidingPosition_chroma (n : Nat) : decidingPosition (4 * n) = 2 * n ∧ decidingPosition (4 * n + 2) = 2 * n := by
  unfold decidingPosition
  rw [if_neg (by omega), if_neg (by omega)]
  omega

theorem lineAbove_eq (y : Nat) : lineAbove y = if y = 0 then 1 else y - 1 := by
  unfold lineAbove
  split
  · subst y; rfl
  · rfl

theorem absDiff_eq_natAbs (a b : Nat) : absDiff a b = ((a : Int) - b).natAbs := by
  unfold absDiff
  omega

theorem motionAt_of_none (h : x.prev2 = none) (n : Nat) :
    x.motionAt p q y n = ((p.word (y / 2) (2 * n + 1) : Int) - q.word (y / 2) (2 * n + 1)).natAbs := by
  simp [RenderInput.motionAt, RenderInput.sameParity, h, motion, absDiff_eq_natAbs]

theorem sameParity_of_some (h : x.prev2 = some f) :
    x.sameParity = if f.parity = x.self.parity then some f else none := by
  simp [RenderInput.sameParity, h, Option.filter]

theorem motionAt_of_some (h : x.prev2 = some f) (ha : a = lineAbove y / 2) (hb : b = lineBelow x.frame y / 2) (n : Nat) :
    x.motionAt p q y n = if f.parity = x.self.parity
      then max ((p.word (y / 2) (2 * n + 1) : Int) - q.word (y / 2) (2 * n + 1)).natAbs
        ((((x.self.word a (2 * n + 1) : Int) - f.word a (2 * n + 1)).natAbs +
          ((x.self.word b (2 * n + 1) : Int) - f.word b (2 * n + 1)).natAbs + 1) / 2)
      else ((p.word (y / 2) (2 * n + 1) : Int) - q.word (y / 2) (2 * n + 1)).natAbs := by
  subst ha hb
  unfold RenderInput.motionAt
  rw [sameParity_of_some h]
  split <;> simp [motion, absDiff_eq_natAbs, FieldView.above, FieldView.below]

theorem mixAt_eq (n : Nat) : x.mixAt p q y n =
    if untrustedAt p.spans (y / 2) n = true ∨ untrustedAt q.spans (y / 2) n = true then 32767
    else min 32767 ((x.motionAt p q y n - x.mlow) * x.gain) := by
  simp only [RenderInput.mixAt, mixFactor, Bool.or_eq_true]

/-! ## Samples stay samples -/

theorem spatial_le (h : ∀ i v, x.self.word i v ≤ 1023) : x.spatial y w ≤ 1023 := midpoint_le (h _ _) (h _ _)

theorem weaveWord_le (h : ∀ i v, x.self.word i v ≤ 1023) (hp : ∀ i v, p.word i v ≤ 1023) :
    x.weaveWord p y w ≤ 1023 := by
  unfold RenderInput.weaveWord
  split
  · exact spatial_le h
  · exact hp _ _

section
variable (h : ∀ i v, x.self.word i v ≤ 1023) (hp : ∀ p, x.prev = some p → ∀ i v, p.word i v ≤ 1023)
  (hn : ∀ q, x.next = some q → ∀ i v, q.word i v ≤ 1023)
include h hp hn

theorem adaptiveWord_le : x.adaptiveWord y w ≤ 1023 := by
  unfold RenderInput.adaptiveWord
  split
  · rename_i p q hprev hnext
    exact (blend_spec mixAt_le).2.2.trans (max_le (spatial_le h) (midpoint_le (hp p hprev _ _) (hn q hnext _ _)))
  · exact spatial_le h

theorem frameWord_le (mode : RenderMode) : x.frameWord mode y w ≤ 1023 := by
  by_cases hown : y % 2 = x.self.parity.val
  · rw [frameWord_of_own hown]
    exact h _ _
  · rcases frameWord_cases hown mode with heq | ⟨p, hlisted, heq⟩ <;> rw [heq]
    · exact adaptiveWord_le h hp hn
    · exact weaveWord_le h (hlisted.elim (hp p) (hn p))

end
end

/-- Settles O31: each line by its parity and mode, and the motion measure with and without field n-2. -/
theorem reconstructedFrameLines : Obligations.ReconstructedFrameLines := fun x y w =>
  ⟨fun h mode => frameWord_of_own h mode,
    fun h => ⟨frameWord_adaptive h, fun _ hp => frameWord_weavePrev h hp, fun _ hq => frameWord_weaveNext h hq⟩,
    decidingPosition_luma, decidingPosition_chroma, by rw [← lineAbove_eq]; rfl,
    fun p q n h => by rw [mixAt_eq, motionAt_of_none h],
    fun p q f n a b h ha hb => by rw [mixAt_eq, motionAt_of_some h (ha.trans (by rw [lineAbove_eq])) hb],
    fun h hp hn mode => frameWord_le h hp hn mode⟩

end Sys2Proof.Machine

/-! PROOFS. The winner of a grant, by eligibility, service level and the cyclic order after the pointer, and what a grant makes
of the part (R91, R93, R94). -/
namespace Sys2Proof.Machine
section
variable {d : Device} {u : LaneUnit} {c : Channel} {l k : Lane} {s : State} {b : Fin 2}

/-! ## Eligibility (R91, R94) -/

theorem Channel.freeBuffer_eq (c : Channel) : c.freeBuffer =
    if c.buffers[(0 : Fin 2)] = .free ∨ c.buffers[(1 : Fin 2)] = .free
      then some (if c.buffers[(0 : Fin 2)] = .free then 0 else 1) else none := by
  unfold Channel.freeBuffer
  by_cases h0 : c.buffers[(0 : Fin 2)] = .free
  · rw [if_pos h0, if_pos (.inl h0), if_pos h0]
  · simp only [h0, false_or, if_false]

theorem Channel.freeBuffer_isSome : c.freeBuffer.isSome = true ↔
    c.buffers[(0 : Fin 2)] = .free ∨ c.buffers[(1 : Fin 2)] = .free := by
  rw [Channel.freeBuffer_eq]
  split
  · exact iff_of_true rfl ‹_›
  · exact iff_of_false nofun ‹_›

theorem LaneUnit.eligible_iff : u.eligible = true ↔ (∃ j rest, u.op.jobs = j :: rest ∧ j.state = .ready) ∧
    (u.channel.buffers[(0 : Fin 2)] = .free ∨ u.channel.buffers[(1 : Fin 2)] = .free) := by
  rw [LaneUnit.eligible, Bool.and_eq_true, Channel.freeBuffer_isSome]
  refine and_congr_left fun _ => ?_
  cases u.op.jobs <;> simp

/-! ## The highest service level -/

theorem foldl_max_le_iff {xs : List Nat} {m n : Nat} : xs.foldl max m ≤ n ↔ m ≤ n ∧ ∀ a ∈ xs, a ≤ n := by
  induction xs generalizing m with
  | nil => simp
  | cons a xs ih => rw [List.foldl_cons, ih, max_le_iff, List.forall_mem_cons, and_assoc]

theorem Device.topLevel_le_iff {n : Nat} :
    d.topLevel ≤ n ↔ ∀ k, (d.lane k).eligible = true → (d.lane k).settings.serviceLevel ≤ n := by
  simp [Device.topLevel, foldl_max_le_iff]

/-- Of an eligible lane: its level is the highest when no eligible lane's is higher. -/
theorem Device.eq_topLevel_iff (h : (d.lane l).eligible = true) : (d.lane l).settings.serviceLevel = d.topLevel ↔
    ∀ k, (d.lane k).eligible = true → (d.lane k).settings.serviceLevel ≤ (d.lane l).settings.serviceLevel := by
  rw [← Device.topLevel_le_iff]
  exact ⟨fun he => he.ge, fun hle => (Device.topLevel_le_iff.1 le_rfl l h).antisymm hle⟩

/-! ## The cyclic order (R93) -/

/-- In a list that rises by `key`, the first element with a property is the one of the smallest key. -/
theorem find?_of_rising {α : Type} {q : α → Bool} {key : α → Nat} {xs : List α} {x : α}
    (hs : xs.Pairwise fun a b => key a < key b) :
    xs.find? q = some x ↔ x ∈ xs ∧ q x = true ∧ ∀ a ∈ xs, q a = true → key x ≤ key a := by
  induction xs with
  | nil => simp
  | cons a xs ih =>
    obtain ⟨ha, hs⟩ := List.pairwise_cons.1 hs
    cases hq : q a with
    | true =>
      rw [List.find?_cons_of_pos hq, Option.some_inj]
      constructor
      · rintro rfl
        exact ⟨List.mem_cons_self, hq, List.forall_mem_cons.2 ⟨fun _ => le_rfl, fun b hb _ => (ha b hb).le⟩⟩
      · rintro ⟨hx, -, hmin⟩
        rcases List.mem_cons.1 hx with hx | hx
        · exact hx.symm
        · exact absurd (ha x hx) (hmin a List.mem_cons_self hq).not_gt
    | false =>
      have hne (hx : q x = true) : x ≠ a := by rintro rfl; rw [hq] at hx; cases hx
      rw [List.find?_cons_of_neg (by simp [hq]), ih hs, List.forall_mem_cons]
      constructor
      · rintro ⟨hx, hqx, hmin⟩
        exact ⟨List.mem_cons_of_mem _ hx, hqx, fun hqa => absurd hqa (by simp [hq]), hmin⟩
      · rintro ⟨hx, hqx, -, hmin⟩
        exact ⟨(List.mem_cons.1 hx).resolve_left (hne hqx), hqx, hmin⟩

/-- How far a lane lies after the pointer in the cyclic order. -/
def cyclicPlace (p k : Lane) : Nat := (k.val + 3 - p.val) % 4

theorem searchOrder_rising (p : Lane) : (searchOrder p).Pairwise fun a b => cyclicPlace p a < cyclicPlace p b := by
  revert p
  decide

theorem mem_searchOrder (p k : Lane) : k ∈ searchOrder p := by
  revert p k
  decide

theorem Device.grantWinner_iff : d.grantWinner = some l ↔ (d.lane l).eligible = true ∧
    (∀ k, (d.lane k).eligible = true → (d.lane k).settings.serviceLevel ≤ (d.lane l).settings.serviceLevel) ∧
    ∀ k, (d.lane k).eligible = true → (d.lane k).settings.serviceLevel = (d.lane l).settings.serviceLevel →
      cyclicPlace d.engine.pointer l ≤ cyclicPlace d.engine.pointer k := by
  rw [Device.grantWinner, find?_of_rising (searchOrder_rising _)]
  simp only [mem_searchOrder, true_and, forall_const, Bool.and_eq_true, decide_eq_true_eq, and_imp, and_assoc]
  refine and_congr_right fun hl => ?_
  rw [← Device.eq_topLevel_iff hl]
  refine and_congr_right fun htop => ?_
  rw [htop]

/-! ## The grant (R93, R94) -/

theorem Ev.grant_of_none (h : s.dev.engine.running ≠ none ∨ s.dev.grantWinner = none) :
    (Ev.start s.dev).grant = Ev.start s.dev := by
  unfold Ev.grant
  split
  · rename_i l hr hw
    exact h.elim (fun h => absurd hr h) fun h => by rw [Ev.start_dev, h] at hw; cases hw
  · rfl

theorem Ev.grant_of_winner (hr : d.engine.running = none) (hw : d.grantWinner = some l) :
    (Ev.start d).grant = Ev.start (d.grantTo l) := by
  simp only [Ev.grant, Ev.start_dev, hr, hw]
  rfl

theorem Device.grantTo_eq {j : Job} {rest : List Job} (hj : (d.lane l).op.jobs = j :: rest)
    (hb : (d.lane l).channel.freeBuffer = some b) : d.grantTo l =
      { d.modLane l fun u => { u with op := { u.op with jobs := rest }, channel := u.channel.setBuffer b .lent } with
        engine := ⟨some { j with state := .running, buffer := some b }, l⟩ } := by
  simp only [Device.grantTo, hj, hb]

theorem Device.grantTo_lane {j : Job} {rest : List Job} (hj : (d.lane l).op.jobs = j :: rest)
    (hb : (d.lane l).channel.freeBuffer = some b) : (d.grantTo l).lane l =
      { d.lane l with
        op := { (d.lane l).op with jobs := rest }, channel := (d.lane l).channel.setBuffer b .lent } := by
  rw [Device.grantTo_eq hj hb]
  exact d.lane_modLane_self l fun u => { u with op := { u.op with jobs := rest }, channel := u.channel.setBuffer b .lent }

end

/-- Settles O28: the first lane of the highest level in the search order, and the equation of its grant. -/
theorem grantGoesToNextEligibleLane : Obligations.GrantGoesToNextEligibleLane := by
  refine ⟨fun u => LaneUnit.eligible_iff, fun d l => Device.grantWinner_iff, fun s =>
    ⟨fun h => congrArg Host.Outcome.next (State.event_of_idle (Ev.grant_of_none h)), fun l hr hw => ?_⟩⟩
  obtain ⟨⟨j, rest, hj, -⟩, hfree⟩ := LaneUnit.eligible_iff.1 (Device.grantWinner_iff.1 hw).1
  have hb := (s.dev.lane l).channel.freeBuffer_eq
  rw [if_pos hfree] at hb
  refine ⟨_, j, rest, _, congrArg Host.Outcome.next (State.event_of_start (Ev.grant_of_winner hr hw)), hj, rfl, ?_⟩
  have houtside : (s.dev.grantTo l).outside l = s.dev.outside l := by
    rw [Device.grantTo_eq hj hb, Device.outside_setEngine, Device.outside_modLane]
  refine ⟨by rw [Device.grantTo_eq hj hb], Device.grantTo_lane hj hb, (Device.sameOutside_of_outside houtside).1, ?_⟩
  rw [Device.grantTo_eq hj hb]
  exact ⟨rfl, rfl, rfl, rfl, rfl, rfl⟩

end Sys2Proof.Machine

/-! PROOFS (O26). A field that a transfer gives no job: the operation while the event works on it, and what the part shows where the
transfer ends at the field or goes on (R85, R146, R147, R149, R150). -/
namespace Sys2Proof.Machine
section
variable {e : Ev} {s : State} {l : Lane} {i : SlotId} {r : FieldRecord} {p : TransferParams} {op op' : Controller}
  {sub : SubState} {st st' : OpState} {z z' : Counts} {cs cs' : List Cause} {b b' : Bool} {cls : EndClass}
  {cause : Option Cause} {start : Bool}

/-! ## No job -/

/-- Between `op` and `op'` a field got no job: the counts came to `z`, the mark for the next job to `b`, the causes `cs` are
observed, and the jobs made and pending and the fields named by them are as they were. -/
structure Controller.GotNoJob (op : Controller) (z : Counts) (cs : List Cause) (b : Bool) (op' : Controller) : Prop where
  counts  : op'.counts = z
  causes  : ∀ c ∈ cs, c ∈ op'.causes
  mark    : op'.pendingDiscontinuity = b
  pending : op'.jobs.length = op.jobs.length
  made    : op'.jobsCreated = op.jobsCreated
  first   : op'.first = op.first
  last    : op'.last = op.last

theorem Controller.GotNoJob.ended (h : op.GotNoJob z cs b op') :
    op.GotNoJob z cs b (op'.ended cls cause) :=
  ⟨h.counts, fun c hc => (Controller.Gathers.recordEnd op' cls cause).causes c (h.causes c hc), h.mark, h.pending, h.made,
    h.first, h.last⟩

theorem Controller.GotNoJob.drain (h : op.GotNoJob z cs b op') : op.GotNoJob z cs b (op'.drain cls cause p) :=
  ⟨h.counts, fun c hc => (Controller.Gathers.recordEnd op' cls cause).causes c (h.causes c hc), h.mark, h.pending, h.made,
    h.first, h.last⟩

/-- The clause on the jobs. -/
theorem Controller.GotNoJob.keepsJobs (h : op.GotNoJob z cs b op') : op'.jobs.length = op.jobs.length ∧
    op'.jobsCreated = op.jobsCreated ∧ op'.first = op.first ∧ op'.last = op.last :=
  ⟨h.pending, h.made, h.first, h.last⟩

/-- Of all that says that a field got no job, only the number of pending jobs needs the jobs. -/
theorem Controller.GotNoJob.of_sansJobs {x : Controller} (h : op.GotNoJob z cs b x) (hx : op'.sansJobs = x.sansJobs)
    (hj : op'.jobs.length = op.jobs.length) : op.GotNoJob z cs b op' :=
  ⟨(congrArg Controller.counts hx).trans h.counts, fun c hc => (congrArg Controller.causes hx).symm ▸ h.causes c hc,
    (congrArg Controller.pendingDiscontinuity hx).trans h.mark, hj, (congrArg Controller.jobsCreated hx).trans h.made,
    (congrArg Controller.first hx).trans h.first, (congrArg Controller.last hx).trans h.last⟩

/-! ## The event so far -/

/-- An event that works on a field of lane `l` has given it no job so far, and has issued no notice: of the operation only its
state, counts, causes and mark may have changed, and which of the pending jobs is READY. -/
structure Ev.Unserved (s : State) (l : Lane) (st : OpState) (z : Counts) (cs : List Cause) (b : Bool) (e : Ev) : Prop where
  op    : ∃ js, js.length = (s.dev.lane l).op.jobs.length ∧ (e.dev.lane l).op = { (s.dev.lane l).op with
    state := st, counts := z, causes := cs, pendingDiscontinuity := b, jobs := js }
  offOp : e.dev.offOp l = s.dev.offOp l
  notes : e.notes = []

theorem Ev.Unserved.state (h : e.Unserved s l st z cs b) : (e.dev.lane l).op.state = st := by
  obtain ⟨js, -, hop⟩ := h.op
  rw [hop]

theorem Ev.Unserved.gotNoJob (h : e.Unserved s l st z cs b) : (s.dev.lane l).op.GotNoJob z cs b (e.dev.lane l).op := by
  obtain ⟨js, hjs, hop⟩ := h.op
  rw [hop]
  exact ⟨rfl, fun _ hc => hc, rfl, hjs, rfl, rfl, rfl⟩

theorem Ev.Unserved.drained (h : e.Unserved s l st z cs b) : e.dev.drained l = s.dev.drained l := by
  obtain ⟨js, hjs, hop⟩ := h.op
  refine Device.drained_congr ?_ (Device.engine_of_offOp h.offOp) (by rw [Device.lane_of_offOp h.offOp]) ?_ <;> rw [hop]
  exact hjs

/-- A step of the controller that is told by its state, counts, causes and mark alone. -/
theorem Ev.Unserved.modOp {f : Controller → Controller} (h : e.Unserved s l st z cs b)
    (hf : ∀ op : Controller, op.state = st → op.counts = z → op.causes = cs → op.pendingDiscontinuity = b →
      f op = { op with state := st', counts := z', causes := cs', pendingDiscontinuity := b' }) :
    (e.modOp l f).Unserved s l st' z' cs' b' := by
  obtain ⟨js, hjs, hop⟩ := h.op
  refine ⟨⟨js, hjs, ?_⟩, (Ev.offOp_modOp f).trans h.offOp, h.notes⟩
  rw [Ev.modOp_dev, Device.lane_modLane_self, hop, hf _ rfl rfl rfl rfl]

theorem Controller.noJobFor_eq (op : Controller) : op.noJobFor r =
    { op with pendingDiscontinuity := r.discontinuity || r.gap || op.pendingDiscontinuity } := by
  unfold Controller.noJobFor
  split
  · rename_i hmark; rw [hmark, Bool.true_or]
  · rename_i hmark; rw [Bool.eq_false_iff.2 hmark, Bool.false_or]

theorem Ev.Unserved.noJobFor (h : e.Unserved s l st z cs b) :
    (e.modOp l fun op => op.noJobFor r).Unserved s l st z cs (r.discontinuity || r.gap || b) := by
  refine h.modOp fun op hs hz hc hb => ?_
  subst hs hz hc hb
  exact op.noJobFor_eq

/-- The field has counted, and the waiting job is READY. -/
theorem Ev.counted_unserved (hs : (s.dev.lane l).op.state = .transfer sub p) :
    ∃ cs, ((Ev.start s.dev).counted l i r).Unserved s l (.transfer sub p) (s.dev.lane l).op.counts.addTaken cs
      (s.dev.lane l).op.pendingDiscontinuity := by
  have hcounts := Controller.takes_counts (r := r) (op := s.dev.readied l (s.dev.nextFor l i r.sequence))
    (by rw [Device.readied_state, hs]; nofun)
  obtain ⟨z, cs, htakes⟩ := Controller.takes_of_transfer (r := r) (op := s.dev.readied l (s.dev.nextFor l i r.sequence)) hs
  rw [htakes] at hcounts
  obtain rfl : z = (s.dev.lane l).op.counts.addTaken := hcounts
  exact ⟨cs, ⟨(s.dev.lane l).op.jobs.map (s.dev.readyJob (s.dev.nextFor l i r.sequence)), List.length_map _,
    Ev.counted_op.trans (htakes.trans (by rw [← hs]; rfl))⟩, Ev.offOp_counted, rfl⟩

/-! ## The whole event -/

/-- What the Operation Controller made of the field, as the part shows it. -/
theorem State.fieldTaken_gotNoJob (hr : s.dev.record i = some r)
    (h : (s.dev.lane l).op.GotNoJob z cs b (((Ev.start s.dev).fieldWork l i r).dev.lane l).op) :
    (s.dev.lane l).op.GotNoJob z cs b ((s.event fun e => e.takeField l i).dev.lane l).op := by
  obtain ⟨held, hlane⟩ := State.fieldTaken_lane (s := s) (l := l) hr
  rw [hlane]
  exact ⟨h.counts, h.causes, h.mark, h.pending, h.made, h.first, h.last⟩

/-- The transfer goes on, and nothing is issued. -/
theorem Ev.Unserved.goesOn (h : e.Unserved s l st z cs b) (hr : s.dev.record i = some r)
    (hw : (Ev.start s.dev).fieldWork l i r = e) :
    ((s.event fun e => e.takeField l i).dev.lane l).op.state = st ∧ (s.event fun e => e.takeField l i).link = s.link ∧
      (s.dev.lane l).op.GotNoJob z cs b ((s.event fun e => e.takeField l i).dev.lane l).op := by
  subst hw
  refine ⟨?_, ?_, State.fieldTaken_gotNoJob hr h.gotNoJob⟩
  · obtain ⟨held, hlane⟩ := State.fieldTaken_lane (s := s) (l := l) hr
    rw [hlane]
    exact h.state
  · rw [State.fieldTaken_eq hr, State.event_of_notes_nil h.notes]

/-- The transfer ends. -/
theorem Ev.Unserved.ends (h : e.Unserved s l (.transfer sub p) z cs b) (hr : s.dev.record i = some r)
    (hw : (Ev.start s.dev).fieldWork l i r = e.endTransfer l cls cause) :
    s.transferEnds (s.event fun e => e.takeField l i) l p cls cause ∧
      (s.dev.lane l).op.GotNoJob z cs b ((s.event fun e => e.takeField l i).dev.lane l).op := by
  have hview := Ev.opView_endTransfer (cls := cls) (cause := cause) h.state
  rw [h.drained] at hview
  have hnotes : e.notesOf 3 = [] := by rw [Ev.notesOf, h.notes]; rfl
  constructor
  · refine State.transferEnds_of_view (op := (e.dev.lane l).op) h.state ?_ ?_
    · rw [Ev.takeField_eq (e := Ev.start s.dev) hr, hw, Ev.setChain, Ev.opView_modLane rfl, hview, Ev.opView, hnotes]
    · obtain ⟨js, -, hop⟩ := h.op
      rw [hop]
  · refine State.fieldTaken_gotNoJob hr ?_
    rw [hw]
    have hjobs : ((e.endTransfer l cls cause).dev.lane l).op.jobs.length = (s.dev.lane l).op.jobs.length := by
      rw [Ev.endTransfer_jobs]; exact h.gotNoJob.pending
    have hop := congrArg Prod.fst hview
    split at hop
    · exact h.gotNoJob.ended.of_sansJobs hop hjobs
    · exact h.gotNoJob.drain.of_sansJobs hop hjobs

/-! ## A RUNNING transfer's judgement (R147) -/

/-- The end is tested at a field that got no job. -/
theorem Ev.Unserved.testEnd (h : e.Unserved s l (.transfer .running p) z cs b) : e.testEnd l r =
    if p.ending.reached (s.dev.lane l).op.jobsCreated r.index then e.endTransfer l .normal (some .endReached) else e := by
  simp only [Ev.testEnd, h.state, h.gotNoJob.made]

/-- The end is not tested where the transfer has ended. -/
theorem Ev.testEnd_of_ended (h : (e.dev.lane l).op.state = .transfer sub p) :
    (e.endTransfer l cls cause).testEnd l r = e.endTransfer l cls cause := by
  have hop := congrArg (fun v => v.1.state) (Ev.opView_endTransfer (cls := cls) (cause := cause) h)
  have hstate : ((e.endTransfer l cls cause).dev.lane l).op.state = .idle ∨
      ((e.endTransfer l cls cause).dev.lane l).op.state = .transfer .draining p := by
    split at hop
    · exact .inl hop
    · exact .inr hop
  rcases hstate with hs | hs <;> simp only [Ev.testEnd, hs]

theorem Ev.judgeRunning_of_gap (hgap : p.stopOnGap = true ∧ r.gap = true ∧ start = false) :
    e.judgeRunning l i r p start = (e.modOp l fun op => op.noJobFor r).endTransfer l .abnormal (some .timecodeGap) := by
  obtain ⟨h1, h2, rfl⟩ := hgap
  simp [Ev.judgeRunning, h1, h2]

section
variable (hgap : ¬(p.stopOnGap = true ∧ r.gap = true ∧ start = false))
include hgap

theorem Ev.judgeRunning_of_past {n ix : Nat} (he : p.ending = .atIndex n) (hi : r.index = some ix) (hlt : n < ix) :
    e.judgeRunning l i r p start = (e.modOp l fun op => op.noJobFor r).endTransfer l .normal (some .endPassed) := by
  unfold Ev.judgeRunning
  rw [if_neg (by simpa [and_assoc] using hgap)]
  simp [he, hi, hlt]

variable (hpast : ∀ n ix, p.ending = .atIndex n → r.index = some ix → ix ≤ n)
include hpast

theorem Ev.judgeRunning_of_skipped (hskip : p.skipHeld = true ∧ r.held = true) : e.judgeRunning l i r p start =
    (e.modOp l fun op => (op.count Counts.addSkipped).noJobFor r).testEnd l r := by
  unfold Ev.judgeRunning
  extract_lets past
  have hpast' : past = false := by
    simp only [past]
    split
    · exact decide_eq_false (hpast _ _ ‹_› ‹_›).not_gt
    · rfl
  rw [if_neg (by simpa [and_assoc] using hgap), hpast', if_neg Bool.false_ne_true, if_pos (by simpa using hskip)]

/-- With 32 jobs pending a due job is a drop (R149). -/
theorem Ev.judgeRunning_of_full (hskip : ¬(p.skipHeld = true ∧ r.held = true)) (hfull : 32 ≤ (e.dev.lane l).op.jobs.length) :
    e.judgeRunning l i r p start =
      (if p.stopOnOverrun then
        (e.modOp l fun op => { op.drop with pendingDiscontinuity := true }).endTransfer l .abnormal (some .overrun)
      else e.modOp l fun op => { op.drop with pendingDiscontinuity := true }).testEnd l r := by
  have hfull' : ¬(e.dev.lane l).op.jobs.length < Config.maxJobs := hfull.not_gt
  rw [Ev.judgeRunning_of_within hgap hskip hpast, Ev.dueJob, if_neg hfull']

end

/-! ## What the part shows of a judged field -/

/-- The end is tested at the field, which got no job. -/
theorem Ev.Unserved.tested (h : e.Unserved s l (.transfer .running p) z cs b) (hr : s.dev.record i = some r)
    (hw : (Ev.start s.dev).fieldWork l i r = e.testEnd l r) :
    (s.dev.lane l).op.GotNoJob z cs b ((s.event fun e => e.takeField l i).dev.lane l).op ∧
      (p.ending.reached (s.dev.lane l).op.jobsCreated r.index = true →
        s.transferEnds (s.event fun e => e.takeField l i) l p .normal (some .endReached)) ∧
      (p.ending.reached (s.dev.lane l).op.jobsCreated r.index = false →
        ((s.event fun e => e.takeField l i).dev.lane l).op.state = .transfer .running p) := by
  rw [h.testEnd] at hw
  cases hreach : p.ending.reached (s.dev.lane l).op.jobsCreated r.index with
  | true =>
    obtain ⟨hends, hnone⟩ := h.ends hr (hw.trans (if_pos hreach))
    exact ⟨hnone, fun _ => hends, nofun⟩
  | false =>
    obtain ⟨hstate, -, hnone⟩ := h.goesOn hr (hw.trans (if_neg (Bool.eq_false_iff.1 hreach)))
    exact ⟨hnone, nofun, fun _ => hstate⟩

theorem Ev.Unserved.skip (h : e.Unserved s l (.transfer .running p) z cs b) :
    (e.modOp l fun op => (op.count Counts.addSkipped).noJobFor r).Unserved s l (.transfer .running p) z.addSkipped cs
      (r.discontinuity || r.gap || b) := by
  refine h.modOp fun op hs hz hc hb => ?_
  subst hz hc hb
  rw [← hs, Controller.noJobFor_eq, Controller.count, hs]
  rfl

/-- A drop counts, is observed and marks the next job (R38, R149). -/
theorem Ev.Unserved.drop (h : e.Unserved s l (.transfer .running p) z cs b) :
    (e.modOp l fun op => { op.drop with pendingDiscontinuity := true }).Unserved s l (.transfer .running p) z.addDrop
      (insertCause .overrun cs) true := by
  refine h.modOp fun op hs hz hc hb => ?_
  subst hz hc hb
  rw [← hs, Controller.drop, Controller.count, hs]
  rfl

theorem mem_insertCause_self (c : Cause) (cs : List Cause) : c ∈ insertCause c cs := by
  unfold insertCause
  split
  · assumption
  · simp

/-- The field is treated as a drop: no job could be made of it. -/
theorem Ev.Unserved.overrun (h : e.Unserved s l (.transfer .running p) z cs b) (hr : s.dev.record i = some r)
    (hw : (Ev.start s.dev).fieldWork l i r = (if p.stopOnOverrun then
        (e.modOp l fun op => { op.drop with pendingDiscontinuity := true }).endTransfer l .abnormal (some .overrun)
      else e.modOp l fun op => { op.drop with pendingDiscontinuity := true }).testEnd l r) :
    (s.dev.lane l).op.GotNoJob z.addDrop (insertCause .overrun cs) true
        ((s.event fun e => e.takeField l i).dev.lane l).op ∧
      (p.stopOnOverrun = true → s.transferEnds (s.event fun e => e.takeField l i) l p .abnormal (some .overrun)) ∧
      (p.stopOnOverrun = false → p.ending.reached (s.dev.lane l).op.jobsCreated r.index = true →
        s.transferEnds (s.event fun e => e.takeField l i) l p .normal (some .endReached)) ∧
      (p.stopOnOverrun = false → p.ending.reached (s.dev.lane l).op.jobsCreated r.index = false →
        ((s.event fun e => e.takeField l i).dev.lane l).op.state = .transfer .running p) := by
  cases hstop : p.stopOnOverrun with
  | true =>
    rw [hstop, if_pos rfl, Ev.testEnd_of_ended h.drop.state] at hw
    obtain ⟨hends, hnone⟩ := h.drop.ends hr hw
    exact ⟨hnone, fun _ => hends, nofun, nofun⟩
  | false =>
    rw [hstop, if_neg Bool.false_ne_true] at hw
    obtain ⟨hnone, hend, hstay⟩ := h.drop.tested hr hw
    exact ⟨hnone, nofun, fun _ => hend, fun _ => hstay⟩

/-! ## The field as the state of the transfer has it -/

/-- A RUNNING transfer judges the field, and so does an ARMED one at its start field, then RUNNING itself (R146, R147). -/
theorem Ev.fieldWork_judged (hs : (s.dev.lane l).op.state = .transfer sub p)
    (hsub : sub = .running ∨ sub = .armed ∧ p.start.startsAt r.index = true) :
    ∃ (e : Ev) (cs : List Cause) (start : Bool), (start = false ↔ sub = .running) ∧
      e.Unserved s l (.transfer .running p) (s.dev.lane l).op.counts.addTaken cs (s.dev.lane l).op.pendingDiscontinuity ∧
      (Ev.start s.dev).fieldWork l i r = e.judgeRunning l i r p start := by
  obtain ⟨cs, h⟩ := Ev.counted_unserved (i := i) (r := r) hs
  have hstate := h.state
  rcases hsub with rfl | ⟨rfl, hstart⟩
  · refine ⟨_, cs, false, ⟨fun _ => rfl, fun _ => rfl⟩, h, ?_⟩
    rw [Ev.fieldWork, Ev.operationField, hstate]
  · refine ⟨((Ev.start s.dev).counted l i r).modOp l fun op => op.started p (p.start.late r.index),
      bif p.start.late r.index then insertCause .startLate cs else cs, true, ⟨nofun, nofun⟩, h.modOp fun op _ hz hc hb => ?_, ?_⟩
    · rw [← hz, ← hb]
      subst hc
      cases p.start.late r.index <;> rfl
    · rw [← Ev.judgeArmed_of_start hstart, Ev.fieldWork, Ev.operationField, hstate]

/-- An ARMED transfer leaves a field that is not its start field alone, and a DRAINING one every field (R146, R150). -/
theorem Ev.fieldWork_left (hs : (s.dev.lane l).op.state = .transfer sub p)
    (hsub : (sub = .armed ∧ ¬p.start.startsAt r.index = true) ∨ sub = .draining) :
    ∃ cs b, ((Ev.start s.dev).fieldWork l i r).Unserved s l (.transfer sub p) (s.dev.lane l).op.counts.addTaken cs b := by
  obtain ⟨cs, h⟩ := Ev.counted_unserved (i := i) (r := r) hs
  rcases hsub with ⟨rfl, hstart⟩ | rfl
  · refine ⟨cs, r.discontinuity || r.gap || (s.dev.lane l).op.pendingDiscontinuity, ?_⟩
    rw [Ev.fieldWork, Ev.operationField, h.state]
    have hleft : ((Ev.start s.dev).counted l i r).judgeArmed l i r p = _ := if_neg hstart
    exact (congrArg (Ev.Unserved s l _ _ _ _) hleft).mpr h.noJobFor
  · refine ⟨cs, (s.dev.lane l).op.pendingDiscontinuity, ?_⟩
    rw [Ev.fieldWork, Ev.operationField, h.state]
    exact h

/-! ## The obligation -/

theorem TransferEnd.reached_iff (x : TransferEnd) (n : Nat) (ix : Option Nat) :
    x.reached n ix = true ↔ x = .count n ∨ ∃ a, x = .atIndex a ∧ ix = some a := by
  cases x with
  | never => simp [TransferEnd.reached]
  | count m => simp [TransferEnd.reached, eq_comm]
  | atIndex a => simp [TransferEnd.reached]

/-- Settles O26: the field's event is taken apart by the transfer's state and then by the order of R147, and in each case the
operation at the end is the one before with the field counted and, where the transfer ends, its end recorded. -/
theorem transferGivesNoJob : Obligations.TransferGivesNoJob := by
  refine ⟨TransferEnd.reached_iff, ?_⟩
  intro s l i r sub p op starts judged gap past hc hr hop hs hstarts hjudged hgap hpast
  subst hop
  rw [← TransferStart.startsAt_iff] at hstarts
  refine ⟨_, exec_fieldTaken hc, ?_⟩
  by_cases hj : judged
  · obtain ⟨e, cs, start, hstart, hU, hw⟩ := Ev.fieldWork_judged (i := i) (r := r) hs ((hjudged.1 hj).imp_right hstarts.1)
    have hserved : ¬((sub = .armed ∧ ¬starts) ∨ sub = .draining) := by
      rcases hjudged.1 hj with rfl | hst
      · simp
      · simp [hst, (hstarts.1 hst).1]
    have hgap' : gap ↔ p.stopOnGap = true ∧ r.gap = true ∧ start = false := by rw [hgap, hstart]; tauto
    refine ⟨fun h => absurd h hserved, ?_⟩
    by_cases hg : gap
    · obtain ⟨hends, hnone⟩ := hU.noJobFor.ends hr (hw.trans (Ev.judgeRunning_of_gap (hgap'.1 hg)))
      exact ⟨fun _ => hends, fun _ h => absurd hg h, fun _ h => absurd hg h, fun _ h => absurd hg h,
        fun _ => hnone.keepsJobs⟩
    rw [hgap'] at hg
    by_cases hp : past
    · obtain ⟨last, ix, hlast, hix, hlt⟩ := hpast.1 hp
      obtain ⟨hends, hnone⟩ := hU.noJobFor.ends hr (hw.trans (Ev.judgeRunning_of_past hg hlast hix hlt))
      exact ⟨fun h => absurd (hgap'.1 h) hg, fun _ _ _ => hends, fun _ _ h => absurd hp h, fun _ _ h => absurd hp h,
        fun _ => hnone.keepsJobs⟩
    have hwithin (last ix : Nat) (hlast : p.ending = .atIndex last) (hix : r.index = some ix) : ix ≤ last :=
      not_lt.1 fun hlt => hp (hpast.2 ⟨last, ix, hlast, hix, hlt⟩)
    refine ⟨fun h => absurd (hgap'.1 h) hg, fun _ _ h => absurd h hp, ?_⟩
    by_cases hsk : p.skipHeld = true ∧ r.held = true
    · obtain ⟨hnone, hend, hstay⟩ := hU.skip.tested hr (hw.trans (Ev.judgeRunning_of_skipped hg hwithin hsk))
      exact ⟨fun _ _ _ _ => ⟨congrArg Counts.heldSkipped hnone.counts, hend, hstay⟩, fun _ _ _ h => absurd hsk h,
        fun _ => hnone.keepsJobs⟩
    refine ⟨fun _ _ _ h => absurd h hsk, ?_⟩
    by_cases hfull : 32 ≤ (s.dev.lane l).op.jobs.length
    · obtain ⟨hnone, hends⟩ := hU.overrun hr
        (hw.trans (Ev.judgeRunning_of_full hg hwithin hsk (hU.gotNoJob.pending.symm ▸ hfull)))
      exact ⟨fun _ _ _ _ _ => ⟨congrArg Counts.fieldsDropped hnone.counts, hnone.causes _ (mem_insertCause_self _ _),
        hnone.mark, hends⟩, fun _ => hnone.keepsJobs⟩
    · refine ⟨fun _ _ _ _ h => absurd h hfull, fun h => ?_⟩
      rcases h with h | h | h | h | h | h
      · exact absurd (.inl h) hserved
      · exact absurd (.inr h) hserved
      · exact absurd (hgap'.1 h) hg
      · exact absurd h hp
      · exact absurd h hsk
      · exact absurd h hfull
  · have hng : ¬gap := fun h => hj (hjudged.2 (.inl (hgap.1 h).1))
    have hleft : (sub = .armed ∧ ¬p.start.startsAt r.index = true) ∨ sub = .draining := by
      rw [hjudged, hstarts] at hj
      cases sub <;> simp_all
    obtain ⟨cs, b, hU⟩ := Ev.fieldWork_left (i := i) (r := r) hs hleft
    obtain ⟨hstate, hlink, hnone⟩ := hU.goesOn hr rfl
    exact ⟨fun _ => ⟨hstate.trans hs.symm, hlink⟩, fun h => absurd h hng, fun h => absurd h hj, fun h => absurd h hj,
      fun h => absurd h hj, fun _ => hnone.keepsJobs⟩

end
end Sys2Proof.Machine

/-! PROOFS (O52). The abort of a lane's operation: what a cut of the running job does to the Render Engine and the lane's Output
Channel, what STOP and RELEASE have in common, and what the part shows after either (R97, R98, R140, R141, R169). -/
namespace Sys2Proof.Machine
section
variable {d d' d'' : Device} {e : Ev} {l : Lane} {s : State} {r : Request}

/-! ## The cut of the running job (R97) -/

/-- Between `d` and `d'` lane `l`'s running job, if it has one, was cut. -/
structure Device.JobCut (d d' : Device) (l : Lane) : Prop where
  freed   : ∀ j b, d.engine.running = some j → j.lane = l → j.buffer = some b →
    d'.engine.running = none ∧ (d'.lane l).channel.buffers[b] = .free
  kept    : (∀ j, d.engine.running = some j → j.lane ≠ l) →
    d'.engine = d.engine ∧ (d'.lane l).channel = (d.lane l).channel ∧ d'.dram = d.dram
  pointer : d'.engine.pointer = d.engine.pointer
  queue   : (d'.lane l).channel.queue = (d.lane l).channel.queue
  send    : (d'.lane l).channel.send = (d.lane l).channel.send
  slots   : ∀ a, dramRegion a = 0 → d'.dram.read a = d.dram.read a

/-- The contents of the field slots outlast the freeing of a frame buffer. -/
theorem Dram.read_forgetBuffer_of_slots (m : Dram) (b : Fin 2) {a : Nat} (ha : dramRegion a = 0) :
    (m.forgetBuffer l b).read a = m.read a := by
  refine Dram.read_forget_of_ne m ?_
  have hregion : 1 + 2 * l.val + b.val < 9 := by omega
  rw [ha, bufferRegion, Ne, Fin.ext_iff, Fin.val_ofNat, Nat.mod_eq_of_lt hregion]
  exact fun h => absurd (show 0 = 1 + 2 * l.val + b.val from h) (by omega)

/-- A channel that a cut job's buffer returns to. -/
def Channel.takeBack (c : Channel) (j : Job) : Channel :=
  match j.buffer with
  | some b => c.setBuffer b .free
  | none => c

section
variable {c : Channel} {j : Job} {b : Fin 2}

theorem Channel.takeBack_of_buffer (hb : j.buffer = some b) : c.takeBack j = c.setBuffer b .free := by
  rw [Channel.takeBack, hb]

theorem Channel.takeBack_of_none (hb : j.buffer = none) : c.takeBack j = c := by
  rw [Channel.takeBack, hb]

theorem Channel.takeBack_keeps (c : Channel) (j : Job) :
    (c.takeBack j).queue = c.queue ∧ (c.takeBack j).send = c.send := by
  unfold Channel.takeBack
  split <;> exact ⟨rfl, rfl⟩

theorem Channel.takeBack_freed (hb : j.buffer = some b) : (c.takeBack j).buffers[b] = .free := by
  rw [Channel.takeBack_of_buffer hb]
  exact Channel.setBuffer_self

theorem Device.returnBuffer_of_buffer (hb : j.buffer = some b) : d.returnBuffer j =
    { d.modLane j.lane fun u => { u with channel := u.channel.setBuffer b .free } with
      dram := d.dram.forgetBuffer j.lane b } := by
  rw [Device.returnBuffer, hb]

theorem Device.returnBuffer_of_none (hb : j.buffer = none) : d.returnBuffer j = d := by
  rw [Device.returnBuffer, hb]

theorem Device.returnBuffer_lane (d : Device) (j : Job) :
    (d.returnBuffer j).lane j.lane = { d.lane j.lane with channel := (d.lane j.lane).channel.takeBack j } := by
  cases hb : j.buffer with
  | none => rw [Device.returnBuffer_of_none hb, Channel.takeBack_of_none hb]
  | some b =>
    rw [Device.returnBuffer_of_buffer hb, Channel.takeBack_of_buffer hb]
    exact d.lane_modLane_self j.lane fun u => { u with channel := u.channel.setBuffer b .free }

theorem Device.returnBuffer_slots (d : Device) (j : Job) {a : Nat} (ha : dramRegion a = 0) :
    (d.returnBuffer j).dram.read a = d.dram.read a := by
  cases hb : j.buffer with
  | none => rw [Device.returnBuffer_of_none hb]
  | some b =>
    rw [Device.returnBuffer_of_buffer hb]
    exact Dram.read_forgetBuffer_of_slots _ _ ha

end

theorem Device.cutRunning_of_running {j : Job} (hj : d.engine.running = some j) (hl : j.lane = l) :
    d.cutRunning l = { d.returnBuffer j with engine := { d.engine with running := none } } := by
  unfold Device.cutRunning Device.runningOf
  simp only [hj, if_pos hl]

theorem Device.cutRunning_of_others (h : ∀ j, d.engine.running = some j → j.lane ≠ l) : d.cutRunning l = d := by
  unfold Device.cutRunning
  split
  · rename_i j hj
    obtain ⟨hrun, hl⟩ := Device.runningOf_lane hj
    exact absurd hl (h j hrun)
  · rfl

theorem Device.cutRunning_cases (d : Device) (l : Lane) :
    ((∀ j, d.engine.running = some j → j.lane ≠ l) ∧ d.cutRunning l = d) ∨
      ∃ j, d.engine.running = some j ∧ j.lane = l ∧
        d.cutRunning l = { d.returnBuffer j with engine := { d.engine with running := none } } := by
  by_cases h : ∃ j, d.engine.running = some j ∧ j.lane = l
  · obtain ⟨j, hj, hl⟩ := h
    exact .inr ⟨j, hj, hl, Device.cutRunning_of_running hj hl⟩
  · have hothers : ∀ j, d.engine.running = some j → j.lane ≠ l := fun j hj hl => h ⟨j, hj, hl⟩
    exact .inl ⟨hothers, Device.cutRunning_of_others hothers⟩

theorem Device.cutRunning_jobCut (d : Device) (l : Lane) : d.JobCut (d.cutRunning l) l := by
  rcases d.cutRunning_cases l with ⟨hothers, hcut⟩ | ⟨j, hj, rfl, hcut⟩ <;> rw [hcut]
  · exact ⟨fun j _ hj hl => absurd hl (hothers j hj), fun _ => ⟨rfl, rfl, rfl⟩, rfl, rfl, rfl, fun _ _ => rfl⟩
  · have hchannel : ((d.returnBuffer j).lane j.lane).channel = (d.lane j.lane).channel.takeBack j := by
      rw [Device.returnBuffer_lane]
    obtain ⟨hqueue, hsend⟩ := (d.lane j.lane).channel.takeBack_keeps j
    refine ⟨fun j' b hj' _ hb => ⟨rfl, ?_⟩, fun hn => absurd rfl (hn j hj), rfl, ?_, ?_,
      fun a ha => d.returnBuffer_slots j ha⟩
    · obtain rfl : j = j' := Option.some.inj (hj.symm.trans hj')
      exact (congrArg (fun c : Channel => c.buffers[b]) hchannel).trans (Channel.takeBack_freed hb)
    · exact (congrArg Channel.queue hchannel).trans hqueue
    · exact (congrArg Channel.send hchannel).trans hsend

/-- A cut is read from the engine, the channel and the DRAM alone. -/
theorem Device.JobCut.congr (h : d.JobCut d' l) (he : d''.engine = d'.engine)
    (hc : (d''.lane l).channel = (d'.lane l).channel) (hm : d''.dram = d'.dram) : d.JobCut d'' l := by
  obtain ⟨h1, h2, h3, h4, h5, h6⟩ := h
  rw [← he] at h1 h2 h3
  rw [← hc] at h1 h2 h4 h5
  rw [← hm] at h2 h6
  exact ⟨h1, h2, h3, h4, h5, h6⟩

/-- A cut seen from a part that stands the same beside the operations. -/
theorem Device.JobCut.of_beside (h : d'.JobCut d'' l) (hb : d'.beside = d.beside) : d.JobCut d'' l := by
  obtain ⟨h1, h2, h3, h4, h5, h6⟩ := h
  have he := Device.engine_of_beside hb
  have hc := Device.channel_of_beside hb l
  have hm := Device.dram_of_beside hb
  rw [he] at h1 h2 h3
  rw [hc] at h2 h4 h5
  rw [hm] at h2 h6
  exact ⟨h1, h2, h3, h4, h5, h6⟩

/-! ## Discarding the jobs (R97, R98) -/

theorem Device.cutRunning_lane (d : Device) (l : Lane) : ∃ c, (d.cutRunning l).lane l = { d.lane l with channel := c } := by
  rcases d.cutRunning_cases l with ⟨-, hcut⟩ | ⟨j, -, rfl, hcut⟩ <;> rw [hcut]
  · exact ⟨_, rfl⟩
  · exact ⟨_, d.returnBuffer_lane j⟩

theorem Device.discardJobs_lane (d : Device) (l : Lane) (refs writing : List SlotId) :
    ∃ c, (d.discardJobs l refs writing).lane l =
      { d.lane l with channel := c, op := { (d.lane l).op with jobs := [] } } := by
  obtain ⟨c, hc⟩ := d.cutRunning_lane l
  refine ⟨c, ?_⟩
  rw [Device.discardJobs_eq, Device.giveBack_lane, Device.cutJobs, Device.lane_modLane_self, hc]

theorem Device.discardJobs_jobCut (d : Device) (l : Lane) (refs writing : List SlotId) :
    d.JobCut (d.discardJobs l refs writing) l := by
  refine (d.cutRunning_jobCut l).congr ?_ ?_ ?_ <;> rw [Device.discardJobs_eq]
  · exact (d.cutJobs l).giveBack_engine _ _
  · rw [Device.giveBack_lane, Device.cutJobs, Device.lane_modLane_self]
  · exact (d.cutJobs l).giveBack_dram _ _

/-! ## What STOP and RELEASE have in common -/

/-- The event `e` aborts lane `l`'s operation on the part `d`: the operation has ended, with its completion as the event's
only one, and the lane's jobs are gone. -/
structure Ev.Aborts (d : Device) (l : Lane) (e : Ev) : Prop where
  view     : e.opView l = ((Ev.start d).abort l).opView l
  jobs     : (e.dev.lane l).op.jobs = []
  cut      : d.JobCut e.dev l
  settings : (e.dev.lane l).settings = (d.lane l).settings
  quota    : (e.dev.lane l).quota = (d.lane l).quota
  outside  : e.outside l = (Ev.start d).outside l

/-- The operation is aborted and its jobs are discarded: all of STOP. -/
def Ev.stopLane (e : Ev) (l : Lane) (refs writing : List SlotId) : Ev :=
  (e.abort l).modDev fun d => d.discardJobs l refs writing

theorem Ev.stopLane_lane (d : Device) (l : Lane) (refs writing : List SlotId) :
    ∃ c, ((Ev.start d).stopLane l refs writing).dev.lane l =
      { ((Ev.start d).abort l).dev.lane l with channel := c, op := { (((Ev.start d).abort l).dev.lane l).op with jobs := [] } } :=
  Device.discardJobs_lane _ _ _ _

theorem Ev.stopLane_aborts (d : Device) (l : Lane) (refs writing : List SlotId) :
    Ev.Aborts d l ((Ev.start d).stopLane l refs writing) := by
  have hbeside : ((Ev.start d).abort l).dev.beside = d.beside := Ev.beside_abort
  obtain ⟨c, hlane⟩ := Ev.stopLane_lane d l refs writing
  refine ⟨Ev.opView_ext ?_ rfl, ?_, ?_, ?_, ?_, ?_⟩
  · rw [hlane]; rfl
  · rw [hlane]
  · exact (Device.discardJobs_jobCut _ _ _ _).of_beside hbeside
  · rw [hlane]; exact Device.settings_of_beside hbeside l
  · rw [hlane]; exact Device.quota_of_beside hbeside l
  · exact (Ev.outside_discardJobs refs writing).trans Ev.outside_abort

/-- A lane as RELEASE leaves it (R141). -/
def LaneUnit.atRelease (u : LaneUnit) : LaneUnit :=
  { u.released with decoder := LabelDecoder.reset, monitor := Monitor.reset }

/-- The event that RELEASE is, its LOCK and CADENCE notices aside: STOP with more slots given back, and the lane released. -/
theorem Ev.releaseLane_dev (e : Ev) (l : Lane) : ∃ refs writing,
    (e.releaseLane l).dev = (e.stopLane l refs writing).dev.modLane l LaneUnit.atRelease := by
  refine ⟨((e.abort l).dev.lane l).window, ((e.abort l).dev.lane l).openSlot ++ ((e.abort l).dev.lane l).chainSlot, ?_⟩
  unfold Ev.releaseLane
  extract_lets e1 u e2 e3
  have hdev : e3.dev = e2.dev.modLane l LaneUnit.atRelease := by
    simp only [e3, Ev.resetLaneBlocks, Ev.setMonitor_dev, Ev.modLane_dev, Device.modLane_modLane]
    rfl
  rw [apply_ite Ev.dev, Ev.note_dev, ite_self, hdev]
  rfl

theorem Ev.releaseLane_notes : (e.releaseLane l).notesOf 3 = (e.abort l).notesOf 3 := by
  unfold Ev.releaseLane
  extract_lets e1 u e2 e3
  have h3 : e3.notesOf 3 = e1.notesOf 3 := Ev.notesOf_setMonitor_of_ne (by decide)
  split
  · exact h3
  · exact (show (e3.note _).notesOf 3 = e3.notesOf 3 by simp [Notice.rank]).trans h3

theorem Ev.releaseLane_aborts (d : Device) (l : Lane) : Ev.Aborts d l ((Ev.start d).releaseLane l) := by
  obtain ⟨refs, writing, hdev⟩ := (Ev.start d).releaseLane_dev l
  have hlane : ((Ev.start d).releaseLane l).dev.lane l =
      (((Ev.start d).stopLane l refs writing).dev.lane l).atRelease := by rw [hdev, Device.lane_modLane_self]
  obtain ⟨hview, hjobs, hcut, hsettings, hquota, -⟩ := Ev.stopLane_aborts d l refs writing
  refine ⟨Prod.ext ?_ Ev.releaseLane_notes, ?_, hcut.congr ?_ ?_ ?_, ?_, ?_, Ev.outside_releaseLane⟩
  · exact (congrArg (fun u : LaneUnit => u.op.sansJobs) hlane).trans (congrArg Prod.fst hview)
  · rw [hlane]; exact hjobs
  · rw [hdev]; rfl
  · rw [hlane]; rfl
  · rw [hdev]; rfl
  · rw [hlane]; exact hsettings
  · rw [hlane]; exact hquota

/-! ## The operation as the abort leaves it (R140) -/

theorem Ev.abort_of_idle (h : (e.dev.lane l).op.state = .idle) : e.abort l = e :=
  if_pos (OpState.isIdle_iff.2 h)

theorem Ev.abort_of_running (h : (e.dev.lane l).op.state ≠ .idle) : e.abort l = e.endNow l .aborted none .nothing :=
  if_neg fun hi => h (OpState.isIdle_iff.1 hi)

/-- The completion of an aborted operation. -/
def Controller.abortRecord (op : Controller) (l : Lane) : Completion := op.sansJobs.endRecord l .aborted none .nothing

section
variable (h : Ev.Aborts s.dev l e)
include h

theorem Ev.Aborts.idle : (e.dev.lane l).op.state = .idle := by
  have hop := congrArg (fun v => v.1.state) h.view
  by_cases hs : (s.dev.lane l).op.state = .idle
  · rw [Ev.abort_of_idle (e := Ev.start s.dev) hs] at hop
    exact hop.trans hs
  · rw [Ev.abort_of_running (e := Ev.start s.dev) hs, Ev.opView_endNow] at hop
    exact hop

theorem Ev.Aborts.snapshot : (e.dev.lane l).op.snapshot =
    if (s.dev.lane l).op.state = .idle then (s.dev.lane l).op.snapshot else none := by
  have hop := congrArg (fun v => v.1.snapshot) h.view
  split
  · rename_i hs
    rw [Ev.abort_of_idle (e := Ev.start s.dev) hs] at hop
    exact hop
  · rename_i hs
    rw [Ev.abort_of_running (e := Ev.start s.dev) hs, Ev.opView_endNow] at hop
    exact hop

theorem Ev.Aborts.notes (hs : (s.dev.lane l).op.state ≠ .idle) :
    e.notesOf 3 = [.completion ((s.dev.lane l).op.abortRecord l)] := by
  have hnotes := congrArg Prod.snd h.view
  rw [Ev.abort_of_running (e := Ev.start s.dev) hs, Ev.opView_endNow] at hnotes
  exact hnotes

/-! ## What the part shows of an answered request that aborts -/

theorem Ev.Aborts.cut_answer (a : List Byte) : s.dev.JobCut (s.answer r (done e a)).dev l := by
  have hbeside : (s.answer r (done e a)).dev.beside = e.dev.beside := Ev.beside_commit e _
  exact h.cut.congr (Device.engine_of_beside hbeside) (Device.channel_of_beside hbeside l) (Device.dram_of_beside hbeside)

/-- The completion stands right before the reply. -/
theorem Ev.Aborts.outbound (a : List Byte) (hs : (s.dev.lane l).op.state ≠ .idle) (hc : s.link.hasCompletion l = false) :
    ∃ more reply, (s.answer r (done e a)).link.outbound = s.link.outbound ++ more ++
      [⟨.notice (.completion ((s.dev.lane l).op.abortRecord l)), none⟩, reply] := by
  obtain ⟨-, more, hmore⟩ := (Ev.commit_of_one_completion (h.notes hs) s.link.dequeue).1 hc
  refine ⟨more, ⟨.reply ⟨r.kind, r.tag, .done, false, a⟩, none⟩, ?_⟩
  show (e.commit s.link.dequeue).2.outbound ++ [_] = _
  rw [hmore]
  simp [Link.dequeue, done]

end

/-! ## The two requests -/

theorem readLane_val (l : Lane) : readLane l.val = some l := dif_pos l.isLt

theorem exec_stop_of_running (ht : s.takes 0x18 r) (hl : field r.body 0 1 = l.val) (hs : (s.dev.lane l).op.state ≠ .idle) :
    exec .stop s = .next (s.answer r (done ((Ev.start s.dev).stopLane l [] []) [])) := by
  refine congrArg Host.Outcome.next ((State.request_of_takes ht).trans (congrArg (s.answer r) ?_))
  rw [stopRequest, hl, readLane_val]
  exact if_neg fun hi => hs (OpState.isIdle_iff.1 hi)

theorem exec_stop_of_idle (ht : s.takes 0x18 r) (hl : field r.body 0 1 = l.val) (hs : (s.dev.lane l).op.state = .idle) :
    exec .stop s = .next { s with link := s.link.answered r (.refused .notRunning) false [] } := by
  refine congrArg Host.Outcome.next (State.request_refused ht ?_)
  rw [stopRequest, hl, readLane_val]
  exact if_pos (OpState.isIdle_iff.2 hs)

theorem exec_release_of_takes (ht : s.takes 0x11 r) (hl : field r.body 0 1 = l.val) :
    exec .release s = .next (s.answer r (done ((Ev.start s.dev).releaseLane l) [])) := by
  refine congrArg Host.Outcome.next ((State.request_of_takes ht).trans (congrArg (s.answer r) ?_))
  rw [releaseRequest, hl, readLane_val]

/-- STOP leaves the Ingest Lane, the window and the completion chain. -/
theorem Ev.stopLane_keeps (d : Device) (l : Lane) (refs writing : List SlotId) :
    (((Ev.start d).stopLane l refs writing).dev.lane l).ingest = (d.lane l).ingest ∧
      (((Ev.start d).stopLane l refs writing).dev.lane l).window = (d.lane l).window ∧
      (((Ev.start d).stopLane l refs writing).dev.lane l).chain = (d.lane l).chain := by
  have hbeside : ((Ev.start d).abort l).dev.beside = d.beside := Ev.beside_abort
  obtain ⟨c, hlane⟩ := Ev.stopLane_lane d l refs writing
  rw [hlane]
  exact ⟨Device.ingest_of_beside hbeside l, Device.window_of_beside hbeside l, Device.chain_of_beside hbeside l⟩

/-- RELEASE takes the lane OFF, its window emptied and its blocks at their reset values. -/
theorem Ev.releaseLane_blocks (e : Ev) (l : Lane) :
    ((e.releaseLane l).dev.lane l).ingest = IngestLane.reset ∧ ((e.releaseLane l).dev.lane l).window = [] ∧
      ((e.releaseLane l).dev.lane l).chain = none ∧ ((e.releaseLane l).dev.lane l).overrun = false ∧
      ((e.releaseLane l).dev.lane l).decoder = LabelDecoder.reset ∧
      ((e.releaseLane l).dev.lane l).monitor = Monitor.reset := by
  obtain ⟨refs, writing, hdev⟩ := e.releaseLane_dev l
  have hlane : (e.releaseLane l).dev.lane l = ((e.stopLane l refs writing).dev.lane l).atRelease := by
    rw [hdev, Device.lane_modLane_self]
  rw [hlane]
  exact ⟨rfl, rfl, rfl, rfl, rfl, rfl⟩

/-- Settles O52: both requests are an event that aborts, so what they share is read off `Ev.Aborts`, and what sets them apart
off the lane as the event leaves it. -/
theorem stopAndReleaseAbort : Obligations.StopAndReleaseAbort := by
  intro s r l hl
  refine ⟨fun ht hs => exec_stop_of_idle ht hl hs, fun c hc => ?_⟩
  obtain ⟨e, hexec, h, hstop, hrelease⟩ : ∃ e, exec c s = .next (s.answer r (done e [])) ∧ Ev.Aborts s.dev l e ∧
      (c = .stop → e = (Ev.start s.dev).stopLane l [] []) ∧ (c = .release → e = (Ev.start s.dev).releaseLane l) := by
    rcases hc with ⟨ht, rfl, hs⟩ | ⟨ht, rfl⟩
    · exact ⟨_, exec_stop_of_running ht hl hs, Ev.stopLane_aborts _ _ _ _, fun _ => rfl, nofun⟩
    · exact ⟨_, exec_release_of_takes ht hl, Ev.releaseLane_aborts _ _, nofun, fun _ => rfl⟩
  obtain ⟨hfreed, hkept, hpointer, hqueue, hsend, hslots⟩ := h.cut_answer (r := r) []
  obtain ⟨hside, hhandler, -⟩ := Device.sameOutside_of_outside (Ev.outside_commit h.outside s.link.dequeue)
  obtain ⟨held, hlane⟩ : ∃ held, (s.answer r (done e [])).dev.lane l =
      { e.dev.lane l with op := { (e.dev.lane l).op with held := held } } := Ev.commit_lane e _ l
  refine ⟨_, ⟨r.kind, r.tag, .done, false, []⟩, hexec, List.getLast?_concat, rfl, rfl, ?_, ?_, ?_, fun hs hcompletion => ?_,
    hfreed, hkept, hpointer, hqueue, hsend, hslots, fun hcs => ?_, fun hcr => ?_, ?_, ?_, hside, hhandler, rfl⟩
  · rw [hlane]; exact h.idle
  · rw [hlane]; exact h.jobs
  · rw [hlane]; exact h.snapshot
  · obtain ⟨more, reply, hout⟩ := h.outbound (r := r) [] hs hcompletion
    exact ⟨more, _, reply, hout, rfl, rfl, rfl, rfl, rfl, rfl⟩
  · have hkeeps := Ev.stopLane_keeps s.dev l [] []
    rw [← hstop hcs] at hkeeps
    obtain ⟨hingest, hwindow, hchain⟩ := hkeeps
    rw [hlane]
    exact ⟨hingest, hwindow, hchain⟩
  · have hblocks := (Ev.start s.dev).releaseLane_blocks l
    rw [← hrelease hcr] at hblocks
    obtain ⟨hingest, hwindow, hchain, hoverrun, hdecoder, hmonitor⟩ := hblocks
    rw [hlane]
    exact ⟨hingest, hwindow, hchain, hoverrun, hdecoder, hmonitor⟩
  · rw [hlane]; exact h.settings
  · rw [hlane]; exact h.quota

end
end Sys2Proof.Machine

/-! PROOFS. What a snapshot holds (R110, R111, R116), and that the scaler reads inside its window and stays in 0 to 1023
(R112, R117 to R120). -/
namespace Sys2Proof.Machine
section
variable {src dst : Nat} {p : Profile} {std : Standard}

/-! ## Steps (R116) -/

theorem scaleStep_step_eq : (scaleStep src dst).step = ((src * 65536 / dst : Nat) : Int) := rfl

/-- A step is a floor, so the source lies below the next step. -/
theorem scaleStep_step (h : 0 < dst) : (scaleStep src dst).step * dst ≤ (src : Int) * 65536 ∧
    (src : Int) * 65536 < ((scaleStep src dst).step + 1) * dst := by
  have hlow : src * 65536 / dst * dst ≤ src * 65536 := Nat.div_mul_le_self _ _
  have hhigh : src * 65536 < (src * 65536 / dst + 1) * dst := by
    rw [Nat.add_one_mul]
    exact Nat.lt_div_mul_add h
  rw [scaleStep_step_eq]
  exact ⟨mod_cast hlow, mod_cast hhigh⟩

theorem scaleStep_offset :
    2 * (scaleStep src dst).offset ≤ (scaleStep src dst).step - 65536 ∧
      (scaleStep src dst).step - 65536 < 2 * (scaleStep src dst).offset + 2 := by
  simp only [scaleStep]
  omega

/-- An axis that is enlarged has a step below one sample. -/
theorem scaleStep_step_lt (h : src < dst) : (scaleStep src dst).step < 65536 := by
  have : src * 65536 / dst < 65536 := (Nat.div_lt_iff_lt_mul (by omega)).2 (by omega)
  rw [scaleStep_step_eq]
  exact mod_cast this

theorem scaleStep_step_le (h : src ≤ 2 * dst) : (scaleStep src dst).step ≤ 131072 := by
  have : src * 65536 / dst ≤ 131072 := Nat.div_le_of_le_mul (by omega)
  rw [scaleStep_step_eq]
  exact mod_cast this

/-! ## The window (R109, R111) -/

/-- Of a valid geometry, what the fit of the window needs. -/
theorem Profile.window_of_geometryOk (h : p.geometryOk = true) : 16 ≤ p.hs ∧ p.y0 + p.hs ≤ 576 := by
  simp only [Profile.geometryOk, inRange, Bool.and_eq_true, decide_eq_true_eq] at h
  omega

theorem Profile.fit_y0 (p : Profile) (n : Nat) : (p.fit n).y0 = if n - 16 < p.y0 then n - 16 else p.y0 := by
  show min p.y0 (n - 16) = _
  split <;> omega

theorem Standard.frameLines_eq (std : Standard) :
    std = .s625 ∧ std.frameLines = 576 ∨ std = .s525 ∧ std.frameLines = 486 := by
  cases std <;> simp [Standard.frameLines, Standard.lines]

end

/-- Settles O32: the steps are floors, and the fit moves the window up by no more than the frame asks for. -/
theorem snapshotStepsAndWindow : Obligations.SnapshotStepsAndWindow := by
  refine ⟨fun src dst hd => ?_, fun std p hp => ?_⟩
  · obtain ⟨hlow, hhigh⟩ := scaleStep_step (src := src) hd
    obtain ⟨holow, hohigh⟩ := scaleStep_offset (src := src) (dst := dst)
    refine ⟨hlow, hhigh, holow, hohigh, fun h => ?_, fun h => ?_⟩
    · have := scaleStep_step_lt h
      omega
    · have := scaleStep_step_le h
      omega
  · obtain ⟨hhs, hend⟩ := p.window_of_geometryOk hp
    refine ⟨(p.fit std.frameLines).y0, (p.fit std.frameLines).hs, (takeSnapshot std p).windowClamped, rfl, ?_⟩
    have hmark : (takeSnapshot std p).windowClamped = true ↔
        (p.fit std.frameLines).y0 ≠ p.y0 ∨ (p.fit std.frameLines).hs ≠ p.hs := by simp [takeSnapshot]
    refine ⟨p.fit_y0 _, rfl, hmark, ?_⟩
    · simp only [Profile.fit]
      rcases std.frameLines_eq with ⟨rfl, hf⟩ | ⟨rfl, hf⟩ <;> simp only [hf]
      · omega
      · refine ⟨nofun, ?_⟩
        omega

section
variable {f : FilterSet} {x : ScaleStep} {size j : Nat} {src : Nat → Nat} {sum : Int}

/-! ## Positions (R117) -/

theorem ScaleStep.position_eq (x : ScaleStep) (j : Nat) :
    (j : Int) * x.step + x.offset = 65536 * x.intPart j + x.frac j ∧ x.frac j < 65536 := by
  simp only [ScaleStep.intPart, ScaleStep.frac, ScaleStep.position]
  omega

theorem ScaleStep.phase_val (x : ScaleStep) (j : Nat) : (x.phase j).val = x.frac j / 2048 := by
  have hfrac := (x.position_eq j).2
  exact Nat.mod_eq_of_lt (by omega)

theorem clampIndex_spec {i : Int} (h : 0 < size) : clampIndex size i < size ∧
    (0 ≤ i → i < size → (clampIndex size i : Int) = i) ∧ (i < 0 → clampIndex size i = 0) ∧
    (size ≤ i → clampIndex size i = size - 1) := by
  unfold clampIndex
  omega

/-! ## Filter sums (R118, R119) -/

theorem saturate_le (sum : Int) : saturate sum ≤ 1023 := Nat.min_le_right _ _

/-- A sum of weight 16384 over samples needs no clamp. -/
theorem saturate_of_range (h0 : 0 ≤ sum) (h1 : sum ≤ 16384 * 1023) : (saturate sum : Int) = (sum + 8192) / 16384 := by
  unfold saturate
  omega

/-- A weighted sum lies between nothing and its whole weight times the largest value. -/
theorem weightedSum_bounds {α : Type} {c v : α → Int} {top : Int} (ts : List α) (hc : ∀ t, 0 ≤ c t)
    (hv : ∀ t, 0 ≤ v t ∧ v t ≤ top) :
    0 ≤ (ts.map fun t => c t * v t).sum ∧ (ts.map fun t => c t * v t).sum ≤ (ts.map c).sum * top := by
  induction ts with
  | nil => simp
  | cons t ts ih =>
    have hlow : 0 ≤ c t * v t := mul_nonneg (hc t) (hv t).1
    have hhigh : c t * v t ≤ c t * top := mul_le_mul_of_nonneg_left (hv t).2 (hc t)
    simp only [List.map_cons, List.sum_cons, add_mul]
    omega

/-- The taps of set 0 are a share of 16384 split between two neighbours (Table 50). -/
theorem FilterSet.linear_h (n : Fin 32) : (∀ t : Fin 6, 0 ≤ (FilterSet.linear.h[n])[t]) ∧
    ((List.finRange 6).map fun t => (FilterSet.linear.h[n])[t]).sum = 16384 := by
  have hn := n.isLt
  have hrow : FilterSet.linear.h[n] = #v[0, 0, 16384 - 512 * (n.val : Int), 512 * (n.val : Int), 0, 0] := by
    simp [FilterSet.linear]
  rw [hrow]
  refine ⟨fun t => ?_, by simp [List.finRange_succ]⟩
  fin_cases t <;> simp
  omega

theorem FilterSet.linear_v (n : Fin 32) : (∀ t : Fin 4, 0 ≤ (FilterSet.linear.v[n])[t]) ∧
    ((List.finRange 4).map fun t => (FilterSet.linear.v[n])[t]).sum = 16384 := by
  have hn := n.isLt
  have hrow : FilterSet.linear.v[n] = #v[0, 16384 - 512 * (n.val : Int), 512 * (n.val : Int), 0] := by
    simp [FilterSet.linear]
  rw [hrow]
  refine ⟨fun t => ?_, by simp [List.finRange_succ]⟩
  fin_cases t <;> simp
  omega

/-- Taps that split 16384 keep a sum of samples inside the range of a sample. -/
theorem saturate_weighted {n : Nat} {c : Fin n → Int} {i : Fin n → Nat} (hc : ∀ t, 0 ≤ c t)
    (hsum : ((List.finRange n).map c).sum = 16384) (hsrc : ∀ k, src k ≤ 1023) :
    (saturate ((List.finRange n).map fun t => c t * (src (i t) : Int)).sum : Int) =
      (((List.finRange n).map fun t => c t * (src (i t) : Int)).sum + 8192) / 16384 := by
  have hv : ∀ t, (0 : Int) ≤ (src (i t) : Int) ∧ (src (i t) : Int) ≤ 1023 := fun t => by
    have := hsrc (i t)
    omega
  obtain ⟨h0, h1⟩ := weightedSum_bounds (List.finRange n) hc hv
  rw [hsum] at h1
  exact saturate_of_range h0 h1

/-! ## The raster (R120) -/

variable {y : Nat} {p : Profile} {s : Snapshot} {frame : Nat → Nat → Nat}

theorem Profile.lineInside_iff : p.lineInside y = true ↔ p.yd ≤ y ∧ y < p.yd + p.hd := by
  simp [Profile.lineInside]

theorem rasterLuma_outside {n : Nat} (h : ¬(s.profile.yd ≤ y ∧ y < s.profile.yd + s.profile.hd ∧ s.profile.xd ≤ n ∧
    n < s.profile.xd + s.profile.wd)) : rasterLuma f s frame y n = s.profile.borderY := by
  refine if_neg fun hin => h ?_
  simpa [Profile.lineInside_iff, and_assoc] using hin

theorem rasterChroma_outside {n c : Nat} (h : ¬(s.profile.yd ≤ y ∧ y < s.profile.yd + s.profile.hd ∧
    s.profile.xd / 2 ≤ n ∧ n < (s.profile.xd + s.profile.wd) / 2)) :
    rasterChroma f s frame c y n = if c = 0 then s.profile.borderCb else s.profile.borderCr := by
  refine if_neg fun hin => h ?_
  simpa only [Bool.and_eq_true, decide_eq_true_eq, Profile.lineInside_iff, and_assoc] using hin

end

/-- Settles O33: set 0's taps are a split of 16384, so its sums of samples stay in range before the clamp. -/
theorem scalerStaysInRange : Obligations.ScalerStaysInRange := by
  refine ⟨fun x j => ?_, fun size i h => clampIndex_spec h, fun f x size src j => ⟨saturate_le _, saturate_le _⟩,
    fun x size src j hsrc => ⟨?_, ?_⟩, fun f s frame y n => ⟨rasterLuma_outside, fun h => ?_⟩⟩
  · obtain ⟨hposition, hfrac⟩ := x.position_eq j
    exact ⟨hposition, hfrac, x.phase_val j⟩
  · obtain ⟨hc, hsum⟩ := FilterSet.linear_h (x.phase j)
    exact saturate_weighted hc hsum hsrc
  · obtain ⟨hc, hsum⟩ := FilterSet.linear_v (x.phase j)
    exact saturate_weighted hc hsum hsrc
  · exact ⟨rasterChroma_outside h, rasterChroma_outside h⟩

end Sys2Proof.Machine

/-! PROOFS. An Output Channel follows its recorder's ready line (R123, R124), and the end of a send frees its buffer and
may complete a DRAINING transfer (R125, R151, R152). -/
namespace Sys2Proof.Machine
section
variable {s : State} {l : Lane} {c c' : Channel} {f : Channel → Channel} {n : Nat}

/-! ## One channel (R123, R124) -/

theorem Channel.startSend_of_ready {x : Frame} {rest : List Frame} (hs : c.send = .idle) (hq : c.queue = x :: rest)
    (hr : c.ready = true) :
    c.startSend = { c with buffers := c.buffers.set x.buffer .sending, send := .sending 0 } := by
  simp only [Channel.startSend, hs, hq, hr, Channel.setBuffer]

theorem Channel.startSend_of_not_ready (h : c.send ≠ .idle ∨ c.queue = [] ∨ c.ready = false) : c.startSend = c := by
  unfold Channel.startSend
  split
  · rename_i hs hq hr
    simp [hs, hq, hr] at h
  · rfl

theorem Channel.endLine_of_sending (hs : c.send = .sending n) (hn : n < 1080) :
    c.endLine = { c with send := if c.ready = true then .sending (n + 1) else .paused (n + 1) } := by
  simp only [Channel.endLine, hs]
  exact if_pos hn

theorem Channel.endLine_of_not_sending (h : ∀ n, c.send = .sending n → 1080 ≤ n) : c.endLine = c := by
  unfold Channel.endLine
  split
  · exact if_neg (Nat.not_lt.2 (h _ ‹_›))
  · rfl

theorem Channel.readyRise_of_paused (hs : c.send = .paused n) :
    c.readyRise = { c with ready := true, send := .sending n } := by
  simp only [Channel.readyRise, hs]

theorem Channel.readyRise_of_not_paused (h : ∀ n, c.send ≠ .paused n) : c.readyRise = { c with ready := true } := by
  unfold Channel.readyRise
  split
  · exact absurd ‹_› (h _)
  · rfl

/-! ## The channel's own events -/

/-- An event that changes one channel issues no notice. -/
theorem State.event_modChannel (hc : (s.dev.lane l).channel = c) (hf : f c = c') :
    (s.event fun e => e.modChannel l f) = { s with dev := s.dev.modLane l fun u => { u with channel := c' } } := by
  have hdev : s.dev.modLane l (fun u => { u with channel := f u.channel }) =
      s.dev.modLane l fun u => { u with channel := c' } := Device.modLane_congr (by simp only [hc, hf])
  rw [State.event_of_notes_nil rfl, ← hdev]
  rfl

theorem State.event_modChannel_self (hc : (s.dev.lane l).channel = c) (hf : f c = c) :
    (s.event fun e => e.modChannel l f) = s := by
  rw [State.event_modChannel hc hf, Device.modLane_self (by simp only [← hc])]

end

/-- Settles O34. -/
theorem channelFollowsReady : Obligations.ChannelFollowsReady := by
  intro s l c hc
  have changes {i : Instr} {f : Channel → Channel} {c' : Channel}
      (hi : exec i s = .next (s.event fun e => e.modChannel l f)) (hf : f c = c') :
      exec i s = .next { s with dev := s.dev.modLane l fun u => { u with channel := c' } } :=
    hi.trans (congrArg Host.Outcome.next (State.event_modChannel hc hf))
  have stays {i : Instr} {f : Channel → Channel} (hi : exec i s = .next (s.event fun e => e.modChannel l f))
      (hf : f c = c) : exec i s = .next s := hi.trans (congrArg Host.Outcome.next (State.event_modChannel_self hc hf))
  exact ⟨fun f rest hs hq hr => changes rfl (Channel.startSend_of_ready hs hq hr),
    fun h => stays rfl (Channel.startSend_of_not_ready h),
    fun n hs hn => changes rfl (Channel.endLine_of_sending hs hn),
    fun h => stays rfl (Channel.endLine_of_not_sending h),
    fun n hs => changes rfl (Channel.readyRise_of_paused hs),
    fun h => changes rfl (Channel.readyRise_of_not_paused h),
    changes rfl rfl⟩

section
variable {e : Ev} {s : State} {l : Lane} {f : Frame} {rest : List Frame} {op : Controller} {p : TransferParams}

/-! ## The end of a send (R125, R151, R152) -/

/-- Lane `l`'s send of `f` is over and counted, before a DRAINING transfer is looked at. -/
def Ev.sent (e : Ev) (l : Lane) (f : Frame) : Ev :=
  (e.modChannel l fun c => c.finishSend f).modOp l fun op => op.frameSent f

theorem Ev.sendCompletion_of_last (hs : (e.dev.lane l).channel.send = .sending 1080)
    (hq : (e.dev.lane l).channel.queue = f :: rest) : e.sendCompletion l = (e.sent l f).settle l := by
  simp only [Ev.sendCompletion, Channel.finishing, hs, hq]
  rfl

theorem Ev.sent_lane (e : Ev) (l : Lane) (f : Frame) : (e.sent l f).dev.lane l = { e.dev.lane l with
    channel := (e.dev.lane l).channel.finishSend f, op := (e.dev.lane l).op.frameSent f } := by
  simp [Ev.sent, Ev.modChannel]

theorem Ev.sent_op : ((e.sent l f).dev.lane l).op = (e.dev.lane l).op.frameSent f := by rw [Ev.sent_lane]
theorem Ev.sent_channel : ((e.sent l f).dev.lane l).channel = (e.dev.lane l).channel.finishSend f := by
  rw [Ev.sent_lane]
theorem Ev.sent_ingest : ((e.sent l f).dev.lane l).ingest = (e.dev.lane l).ingest := by rw [Ev.sent_lane]
theorem Ev.sent_window : ((e.sent l f).dev.lane l).window = (e.dev.lane l).window := by rw [Ev.sent_lane]

theorem Channel.finishSend_eq {c : Channel} (hq : c.queue = f :: rest) :
    c.finishSend f = { c with buffers := c.buffers.set f.buffer .free, queue := rest, send := .idle } := by
  simp [Channel.finishSend, Channel.setBuffer, hq]

/-- The report of a sent frame changes the counts at most. -/
theorem Controller.frameSent_eq (op : Controller) (f : Frame) : ∃ k, op.frameSent f = { op with counts := k } := by
  unfold Controller.frameSent Controller.count
  repeat' split
  all_goals exact ⟨_, rfl⟩

theorem Controller.frameSent_of_own {sub : SubState} (hs : op.state = .transfer sub p)
    (hf : f.transferId = op.transferId) :
    (op.frameSent f).counts.framesSent = min 4294967295 (op.counts.framesSent + 1) := by
  simp [Controller.frameSent, Controller.count, hs, hf, OpState.isIdle, Counts.addSent, satAdd, Config.max32]

theorem Controller.frameSent_of_other (hf : f.transferId ≠ op.transferId) : op.frameSent f = op := by
  unfold Controller.frameSent
  split
  · exact if_neg hf
  · rfl

theorem Ev.settle_of_not_draining (h : ∀ p, (e.dev.lane l).op.state ≠ .transfer .draining p) : e.settle l = e := by
  unfold Ev.settle
  split
  · exact absurd ‹_› (h _)
  · rfl

theorem Ev.settle_counts : ((e.settle l).dev.lane l).op.counts = (e.dev.lane l).op.counts := by
  unfold Ev.settle
  split
  · split
    · simp [Ev.complete]
    · rfl
  · rfl

/-- An event that completes lane `l`'s operation at its end, and has issued no notice before. -/
theorem State.event_completes {g : Ev → Ev} {part : OpPart} (hg : g (Ev.start s.dev) = e.complete l part)
    (hnotes : e.notes = []) (hc : s.link.hasCompletion l = false)
    (htag : (e.dev.lane l).op.tag = (s.dev.lane l).op.tag) :
    s.completes (s.event g) l ((e.dev.lane l).op.record l part) := by
  rw [State.event_of_completion (by rw [hg, Ev.complete]; simp [hnotes]; rfl) hc, hg]
  simp [State.completes, Ev.complete, Controller.record, htag]

/-- With no job pending or running and no other frame of it in the queue, the frame was the transfer's last work. -/
theorem Ev.sent_drained (hq : (e.dev.lane l).channel.queue = f :: rest) (hj : (e.dev.lane l).op.jobs = [])
    (hr : ∀ j, e.dev.engine.running = some j → j.lane ≠ l)
    (hf : ∀ x ∈ rest, x.transferId ≠ (e.dev.lane l).op.transferId) : (e.sent l f).dev.drained l = true := by
  obtain ⟨k, hk⟩ := (e.dev.lane l).op.frameSent_eq f
  rw [Device.drained_iff, Device.outstanding, Ev.sent_op, Ev.sent_channel, hk, Channel.finishSend_eq hq]
  rintro (hjobs | ⟨j, hrun, hl⟩ | ⟨x, hx, hid⟩)
  · exact hjobs hj
  · exact hr j hrun hl
  · exact hf x hx hid

end

/-- Settles O35: the send's end is `Ev.sent`; a DRAINING transfer completes when that leaves nothing outstanding. -/
theorem sendCompletionFreesBuffer : Obligations.SendCompletionFreesBuffer := by
  intro s l f rest hs hq
  have hev : (Ev.start s.dev).sendCompletion l = ((Ev.start s.dev).sent l f).settle l := Ev.sendCompletion_of_last hs hq
  have hbeside : (s.event fun e => e.sendCompletion l).dev.beside = ((Ev.start s.dev).sent l f).dev.beside :=
    (s.event_beside _).trans ((congrArg (fun e : Ev => e.dev.beside) hev).trans Ev.beside_settle)
  have hop : (((Ev.start s.dev).sent l f).dev.lane l).op = (s.dev.lane l).op.frameSent f := Ev.sent_op
  have hcounts : ((s.event fun e => e.sendCompletion l).dev.lane l).op.counts =
      ((s.dev.lane l).op.frameSent f).counts := by
    obtain ⟨held, hevent⟩ := s.event_op (fun e => e.sendCompletion l) l
    rw [hevent, hev, Ev.settle_counts, hop]
  obtain ⟨k, hk⟩ := (s.dev.lane l).op.frameSent_eq f
  obtain ⟨hside, hhandler, -⟩ :=
    Device.sameOutside_of_outside (exec_outside (s := s) (c := .sendCompletion l) rfl rfl).1
  refine ⟨_, rfl, ?channel, fun x p hx hid => ?own, fun hid => ?other, fun hd => ?on, fun p hd hc hj hr hrest => ?ends,
    ?ingest, ?window, hside, (Device.slots_of_beside hbeside).trans rfl, (Device.freeList_of_beside hbeside).trans rfl,
    (Device.dram_of_beside hbeside).trans rfl, (Device.engine_of_beside hbeside).trans rfl, hhandler, rfl⟩
  case channel => rw [Device.channel_of_beside hbeside, Ev.sent_channel]; exact Channel.finishSend_eq hq
  case own => rw [hcounts]; exact Controller.frameSent_of_own hx hid
  case other => rw [hcounts, Controller.frameSent_of_other hid]
  case on =>
    have hstays : (Ev.start s.dev).sendCompletion l = (Ev.start s.dev).sent l f :=
      hev.trans (Ev.settle_of_not_draining fun p => by rw [hop, hk]; exact hd p)
    rw [State.event_of_notes_nil (by rw [hstays]; rfl), hstays, hop, hk]
    exact ⟨rfl, rfl⟩
  case ends =>
    have hcompletes : (Ev.start s.dev).sendCompletion l = ((Ev.start s.dev).sent l f).complete l .nothing := by
      rw [hev, Ev.settle_of_draining (p := p) (by rw [hop, hk]; exact hd), if_pos (Ev.sent_drained hq hj hr hrest)]
    refine ⟨_, State.event_completes hcompletes rfl hc (by rw [hop, hk]), ?_⟩
    rw [hcounts, hop, hk]
    exact ⟨congrArg OpState.kind hd, rfl, rfl, rfl⟩
  case ingest => rw [Device.ingest_of_beside hbeside, Ev.sent_ingest]; rfl
  case window => rw [Device.window_of_beside hbeside, Ev.sent_window]; rfl

end Sys2Proof.Machine

/-! PROOFS. A coefficient load opens a set, and completes it with its 64th mark (R113 to R115). -/
namespace Sys2Proof.Machine
section
variable {s : State} {d : Device} {r : Request} {n : Fin 4} {f : FilterSet} {taps : List Int} {phase : Fin 32}

/-! ## The bodies (R114, R189) -/

theorem field_two_one (a b c : Byte) (bs : List Byte) : field (a :: b :: c :: bs) 2 1 = c.toNat := by
  simp [field, beNat]

theorem toNat_ofNat_val {k : Nat} (i : Fin k) (hk : k ≤ 256) : (BitVec.ofNat 8 i.val : Byte).toNat = i.val :=
  Nat.mod_eq_of_lt (Nat.lt_of_lt_of_le i.isLt hk)

/-- Two bytes make a tap. -/
theorem readTaps_length : ∀ {k : Nat} {bs : List Byte}, bs.length = 2 * k → (readTaps bs).length = k
  | 0, [], _ => rfl
  | k + 1, a :: b :: bs, h => by
    rw [readTaps, List.length_cons, readTaps_length (k := k) (by simp only [List.length_cons] at h; omega)]

theorem toList_ofFn_getD {k : Nat} (h : taps.length = k) :
    (Vector.ofFn fun t : Fin k => taps.getD t.val 0).toList = taps := by
  subst h
  refine List.ext_getElem (by simp) fun i h1 h2 => ?_
  simp

/-! ## One set (R112 to R115) -/

theorem FilterSet.write_complete (f : FilterSet) (vert : Bool) (phase : Fin 32) (taps : List Int) :
    (f.write vert phase taps).complete = true ↔ (f.write vert phase taps).marks = 64 := by
  simp [FilterSet.write, FilterSet.marks]

/-- A horizontal phase is written; the vertical half of the set stays. -/
theorem FilterSet.write_horizontal (ht : taps.length = 6) : (f.write false phase taps).v = f.v ∧
    (f.write false phase taps).marksV = f.marksV ∧ (f.write false phase taps).h[phase].toList = taps ∧
    (f.write false phase taps).marksH[phase] = true ∧
    ∀ k, k ≠ phase → (f.write false phase taps).h[k] = f.h[k] ∧
      (f.write false phase taps).marksH[k] = f.marksH[k] := by
  refine ⟨rfl, rfl, ?_, by simp [FilterSet.write], fun k hk => ?_⟩
  · simpa [FilterSet.write] using toList_ofFn_getD ht
  · have hne : phase.val ≠ k.val := fun h => hk (Fin.ext h.symm)
    simp [FilterSet.write, hne]

/-- A vertical phase is written; the horizontal half of the set stays. -/
theorem FilterSet.write_vertical (ht : taps.length = 4) : (f.write true phase taps).h = f.h ∧
    (f.write true phase taps).marksH = f.marksH ∧ (f.write true phase taps).v[phase].toList = taps ∧
    (f.write true phase taps).marksV[phase] = true ∧
    ∀ k, k ≠ phase → (f.write true phase taps).v[k] = f.v[k] ∧
      (f.write true phase taps).marksV[k] = f.marksV[k] := by
  refine ⟨rfl, rfl, ?_, by simp [FilterSet.write], fun k hk => ?_⟩
  · simpa [FilterSet.write] using toList_ofFn_getD ht
  · have hne : phase.val ≠ k.val := fun h => hk (Fin.ext h.symm)
    simp [FilterSet.write, hne]

/-! ## The two requests -/

theorem Device.setInUse_eq_false {k : Nat} (h : ∀ l x, (d.lane l).op.snapshot = some x → x.profile.filterSet = k →
    (d.lane l).op.state.kind ≠ .transfer) : d.setInUse k = false := by
  refine List.any_eq_false.2 fun l _ hl => ?_
  split at hl
  · rename_i st p x hstate hsnap
    exact h l x hsnap (of_decide_eq_true hl) (by rw [hstate]; rfl)
  · cases hl

theorem setIndex_eq {k : Nat} (hn : k = n.val) : Fin.ofNat 4 k = n := by
  subst hn
  exact Fin.ext (Nat.mod_eq_of_lt n.isLt)

theorem loadCoefficientsRequest_opens (ha : d.handler.access = .engineering) (hn : field r.body 0 1 = n.val)
    (h0 : n ≠ 0) (hu : d.setInUse n.val = false) : loadCoefficientsRequest d r =
      done (Ev.start (d.setFilter n (d.handler.filters[n]).opened)) [BitVec.ofNat 8 n.val, 0, 0] := by
  have hrange : ¬(field r.body 0 1 = 0 || 3 < field r.body 0 1) = true := by
    have hpos : n.val ≠ 0 := fun h => h0 (Fin.ext h)
    simp [hn]
    omega
  unfold loadCoefficientsRequest
  dsimp only
  rw [if_neg (by simp [ha]), if_neg hrange, if_neg (by simp [hn, hu])]
  simp only [setIndex_eq hn]
  simp only [hn]
  rfl

theorem loadCoefficientsRequest_of_zero (ha : d.handler.access = .engineering) (hn : field r.body 0 1 = 0) :
    loadCoefficientsRequest d r = refuse d .range := by
  unfold loadCoefficientsRequest
  dsimp only
  rw [if_neg (by simp [ha]), if_pos (by simp [hn])]

/-- Taps of the sum 16384 for an INCOMPLETE set are written (R114). -/
theorem coefficientDataRequest_writes {vert : Bool} (ha : d.handler.access = .engineering)
    (hn : field r.body 0 1 = n.val) (hdir : field r.body 1 1 = if vert then 1 else 0)
    (hphase : field r.body 2 1 = phase.val) (hl : r.body.length = 3 + 2 * (if vert then 4 else 6))
    (hopen : d.handler.filters[n].complete = false) (ht : readTaps (r.body.drop 3) = taps)
    (hsum : taps.sum = 16384) : coefficientDataRequest d r =
      done (Ev.start (d.setFilter n (d.handler.filters[n].write vert phase taps)))
        [BitVec.ofNat 8 (d.handler.filters[n].write vert phase taps).marks,
          if (d.handler.filters[n].write vert phase taps).complete then 1 else 0] := by
  have hvert : decide (field r.body 1 1 = 1) = vert := by rw [hdir]; cases vert <;> rfl
  have hrange : ¬(3 < field r.body 0 1 || 1 < field r.body 1 1 || 31 < field r.body 2 1) = true := by
    have hlt : field r.body 1 1 ≤ 1 := by rw [hdir]; split <;> omega
    simp
    omega
  have hlength : ¬r.body.length ≠ 3 + 2 * (if field r.body 1 1 = 1 then 4 else 6) := by
    rw [hl, hdir]
    cases vert <;> simp
  have hindex : Fin.ofNat 32 (field r.body 2 1) = phase := by
    rw [hphase]
    exact Fin.ext (Nat.mod_eq_of_lt phase.isLt)
  unfold coefficientDataRequest
  simp only [setIndex_eq hn, hindex, ht, hvert]
  rw [if_neg (by simp [ha]), if_neg hrange, if_neg hlength, if_neg (by rw [hopen]; nofun), if_neg (not_not_intro hsum)]
  cases (d.handler.filters[n].write vert phase taps).complete <;> rfl

end

/-- Settles O46: the requests open a set and write one phase of it; what a written phase is, `FilterSet.write` says. -/
theorem coefficientLoad : Obligations.CoefficientLoad := by
  intro s r n ha
  refine ⟨fun ht hb h0 hu => ?_, fun ht hb => ?_, fun ht vert phase rest hb hl hopen hsum => ?_⟩
  · have hn : field r.body 0 1 = n.val := by rw [hb, field_zero_one, toNat_ofNat_val n (by omega)]
    have hfree : s.dev.setInUse n.val = false := Device.setInUse_eq_false hu
    exact congrArg Host.Outcome.next (State.request_done ht (loadCoefficientsRequest_opens ha hn h0 hfree))
  · have hn : field r.body 0 1 = 0 := by rw [hb, field_zero_one]; rfl
    exact congrArg Host.Outcome.next (State.request_refused ht (loadCoefficientsRequest_of_zero ha hn))
  · have hn : field r.body 0 1 = n.val := by rw [hb, field_zero_one, toNat_ofNat_val n (by omega)]
    have hdir : field r.body 1 1 = if vert then 1 else 0 := by rw [hb, field_one_one]; cases vert <;> rfl
    have hphase : field r.body 2 1 = phase.val := by rw [hb, field_two_one, toNat_ofNat_val phase (by omega)]
    have hlength : r.body.length = 3 + 2 * (if vert then 4 else 6) := by
      rw [hb]
      simp only [List.length_cons]
      omega
    have htaps : readTaps (r.body.drop 3) = readTaps rest := by rw [hb]; rfl
    have hwrites := coefficientDataRequest_writes ha hn hdir hphase hlength hopen htaps hsum
    refine ⟨_, congrArg Host.Outcome.next (State.request_done ht hwrites), FilterSet.write_complete .., ?_, ?_⟩
    · rintro rfl
      exact FilterSet.write_horizontal (readTaps_length hl)
    · rintro rfl
      exact FilterSet.write_vertical (readTaps_length hl)

end Sys2Proof.Machine

/-! PROOFS. An accepted TRANSFER is ARMED with its snapshot (R110, R115, R145, R153). -/
namespace Sys2Proof.Machine
section
variable {s : State} {d : Device} {r : Request} {l : Lane} {p : TransferParams} {profile : Fin 8} {set : Fin 4}

/-- A lane that is LOCKED and free passes the first three checks of an operation request (R130). -/
theorem lockedLaneRequest_of_locked {g : Lane → Answer} (hl : field r.body 0 1 = l.val)
    (hs : (d.lane l).op.state = .idle) (hheld : (d.lane l).op.held = none) (hlock : (d.lane l).ingest.state = .locked) :
    lockedLaneRequest d r g = g l := by
  have hlane : field r.body 0 1 = (BitVec.ofNat 8 l.val : Byte).toNat := hl.trans (toNat_ofNat_val l (by omega)).symm
  rw [lockedLaneRequest, operationRequest_of_lane hlane, if_neg (by simp [hs, hheld]), hlock]

/-- An accepted operation request replies STARTED, and changes one lane's controller. -/
theorem State.request_accepts {kind : Nat} {h : Device → Request → Answer} {g : Controller → Controller}
    {data : List Byte} (ht : s.takes kind r) (hh : h s.dev r = started ((Ev.start s.dev).modOp l g) data) :
    s.request kind h = { s with
      dev := s.dev.modLane l fun u => { u with op := g u.op }, link := s.link.answered r .started false data } := by
  rw [State.request_of_takes ht, hh, State.answer_of_notes_nil rfl]
  rfl

section
variable (hl : field r.body 0 1 = l.val) (hs : (d.lane l).op.state = .idle) (hheld : (d.lane l).op.held = none)
  (hlock : (d.lane l).ingest.state = .locked) (hp : readTransfer r.body = some p) (hprof : p.profile = profile.val)
  (hset : d.handler.profiles[profile].filterSet = set.val)
include hl hs hheld hlock hp hprof hset

/-- What becomes of a TRANSFER that passes the checks of R130: its filter set decides (R115). -/
theorem transferRequest_eq : transferRequest d r =
    if d.handler.filters[set].complete = false then refuse d .incomplete
    else started ((Ev.start d).modOp l fun op => op.acceptTransfer p
      (takeSnapshot (d.lane l).settings.standard d.handler.profiles[profile]) r.tag) [] := by
  have hprofile : Fin.ofNat 8 p.profile = profile := by
    rw [hprof]
    exact Fin.ext (Nat.mod_eq_of_lt profile.isLt)
  rw [transferRequest, lockedLaneRequest_of_locked hl hs hheld hlock, hp]
  simp only [hprofile, setIndex_eq hset, Bool.not_eq_true']

end
end

/-- Settles O50. -/
theorem transferArms : Obligations.TransferArms := by
  intro s r l p prof set ht hl hs hheld hlock hp hprof hset
  have hrequest := transferRequest_eq (d := s.dev) hl hs hheld hlock hp hprof hset
  refine ⟨fun hc => ?_, fun hc => ?_⟩
  · rw [if_pos hc] at hrequest
    exact congrArg Host.Outcome.next (State.request_refused ht hrequest)
  · rw [if_neg (by rw [hc]; nofun)] at hrequest
    refine ⟨_, _, congrArg Host.Outcome.next (State.request_accepts ht hrequest), rfl, ?_⟩
    rw [Device.lane_modLane_self]
    exact ⟨rfl, rfl, rfl, rfl, rfl, rfl, rfl, rfl, rfl, rfl, rfl, rfl, rfl, rfl,
      fun k hk => Device.lane_modLane_of_ne _ _ hk, rfl, rfl, rfl, rfl, rfl⟩

end Sys2Proof.Machine

/-! PROOFS (O27). An operation that ends and completes in one event; the ACQUIRE wait timer and the LINE TEST window (R133,
R139, R158). -/
namespace Sys2Proof.Machine
section
variable {e : Ev} {s t : State} {l : Lane} {cls : EndClass} {cause : Option Cause} {part : OpPart} {c : Instr} {n : Nat}
  {w : LineWatch} {seen : SeenLevels}

/-! ## An end that completes (R133) -/

/-- An event that ends lane `l`'s operation and completes it at once, and has issued no notice before. -/
theorem State.event_endNow {g : Ev → Ev} (hg : g (Ev.start s.dev) = e.endNow l cls cause part) (hnotes : e.notes = [])
    (hc : s.link.hasCompletion l = false) (htag : (e.dev.lane l).op.tag = (s.dev.lane l).op.tag) :
    s.completes (s.event g) l ((e.dev.lane l).op.endRecord l cls cause part) := by
  have hop : ((e.modOp l fun op => op.recordEnd cls cause).dev.lane l).op = (e.dev.lane l).op.recordEnd cls cause := by
    simp
  have hends := State.event_completes (g := g) hg hnotes hc (by rw [hop]; exact htag)
  rwa [hop] at hends

/-- An event of lane `l` that only its operation sees. -/
theorem exec_keeps_of_beside (hl : eventLane c = some l) (hx : exec c s = .next t) (hb : t.dev.beside = s.dev.beside) :
    (t.dev.lane l).ingest = (s.dev.lane l).ingest ∧ s.dev.sameOutside t.dev l ∧ t.dev.slots = s.dev.slots ∧
      t.dev.dram = s.dev.dram :=
  ⟨Device.ingest_of_beside hb l, (Device.sameOutside_of_outside (exec_outside hl hx).1).1, Device.slots_of_beside hb,
    Device.dram_of_beside hb⟩

/-! ## The wait timer (R139) -/

theorem Ev.waitExpiry_of_running (hs : (e.dev.lane l).op.state = .acquiring n)
    (ht : (e.dev.lane l).op.waitTimer = true) : e.waitExpiry l = e.endNow l .abnormal
      (some (if (e.dev.lane l).ingest.state = .noSignal then .noSignal else .lockFailed)) .nothing := by
  simp only [Ev.waitExpiry, hs, ht, if_true]

theorem Ev.waitExpiry_of_stopped (ht : (e.dev.lane l).op.waitTimer = false) : e.waitExpiry l = e := by
  unfold Ev.waitExpiry
  dsimp only
  split
  · rw [ht]; rfl
  · rfl

/-! ## The LINE TEST window (R158) -/

theorem Ev.windowEnd_of_testing (hs : (e.dev.lane l).op.state = .lineTesting w) :
    e.windowEnd l seen = e.endNow l .normal none (.lineCode (w.noteLevels seen).code) := by
  simp only [Ev.windowEnd, hs]

theorem Ev.windowEnd_of_not_testing (hs : ∀ w, (e.dev.lane l).op.state ≠ .lineTesting w) : e.windowEnd l seen = e := by
  unfold Ev.windowEnd
  split
  · exact absurd ‹_› (hs _)
  · rfl

/-- The code of the first check of Table 65 that fails, a level seen when a pulse or the operand showed it. -/
theorem LineWatch.code_noteLevels (w : LineWatch) (seen : SeenLevels) : (w.noteLevels seen).code =
    if w.sampleSeen = false then 1
    else if w.highSeen = false ∧ seen = .lowOnly then 2
    else if w.lowSeen = false ∧ seen = .highOnly then 3
    else if 4 ≤ w.fieldStarts ∧ ¬(w.parity0Seen = true ∧ w.parity1Seen = true) then 4
    else 0 := by
  have hhigh : (!(w.noteLevels seen).highSeen) = true ↔ w.highSeen = false ∧ seen = .lowOnly := by
    simp [LineWatch.noteLevels]
  have hlow : (!(w.noteLevels seen).lowSeen) = true ↔ w.lowSeen = false ∧ seen = .highOnly := by
    simp [LineWatch.noteLevels]
  have hparity : (decide (4 ≤ w.fieldStarts) && !(w.parity0Seen && w.parity1Seen)) = true ↔
      4 ≤ w.fieldStarts ∧ ¬(w.parity0Seen = true ∧ w.parity1Seen = true) := by
    rw [Bool.and_eq_true, decide_eq_true_iff, Bool.not_eq_true', ← Bool.not_eq_true, Bool.and_eq_true]
  exact if_congr (iff_of_eq (Bool.not_eq_true' _)) rfl (if_congr hhigh rfl (if_congr hlow rfl (if_congr hparity rfl rfl)))

/-! ## The obligation -/

/-- Settles O27: a timer or window that runs is one end of the operation, and one that does not run is no event. -/
theorem operationTimersComplete : Obligations.OperationTimersComplete := by
  intro s l hc
  refine ⟨fun n hs ht => ?expiry, fun ht => ?stopped, fun w seen hs => ?window, fun hs seen => ?closed⟩
  case expiry =>
    have hends : (Ev.start s.dev).waitExpiry l = _ := Ev.waitExpiry_of_running hs ht
    exact ⟨_, _, rfl, State.event_endNow hends rfl hc rfl, congrArg OpState.kind hs, rfl, rfl, rfl, rfl,
      exec_keeps_of_beside (c := .waitTimerExpiry l) rfl rfl ((s.event_beside _).trans Ev.beside_waitExpiry)⟩
  case stopped =>
    have hnone : (Ev.start s.dev).waitExpiry l = Ev.start s.dev := Ev.waitExpiry_of_stopped ht
    exact congrArg Host.Outcome.next ((State.event_congr (g := id) hnone).trans (State.event_of_notes_nil rfl))
  case window =>
    have hends : (Ev.start s.dev).windowEnd l seen = _ := Ev.windowEnd_of_testing hs
    exact ⟨_, _, rfl, State.event_endNow hends rfl hc rfl, congrArg OpState.kind hs, rfl, rfl,
      congrArg OpPart.lineCode (w.code_noteLevels seen),
      exec_keeps_of_beside (c := .testWindowEnd l seen) rfl rfl ((s.event_beside _).trans (Ev.beside_windowEnd seen))⟩
  case closed =>
    have hnone : (Ev.start s.dev).windowEnd l seen = Ev.start s.dev := Ev.windowEnd_of_not_testing hs
    exact congrArg Host.Outcome.next ((State.event_congr (g := id) hnone).trans (State.event_of_notes_nil rfl))

end
end Sys2Proof.Machine

/-! PROOFS (O24). CUE, SCAN and PROBE at a field: the operation while the event works on it, each test as its rule has it, and
what the part shows where the search ends or goes on (R132, R133, R142, R156, R157). -/
namespace Sys2Proof.Machine
section
variable {e : Ev} {s : State} {l : Lane} {i : SlotId} {r : FieldRecord} {op : Controller} {mode : CueMode}
  {target limit n v : Nat} {x ix : Option Nat} {p : ScanParams} {cls : EndClass} {cause : Option Cause} {part : OpPart}

/-! ## The field is counted and named (R131, R132) -/

/-- The operations that search the tape field by field. -/
def OpState.searches (x : OpState) : Prop := x.kind = .cue ∨ x.kind = .scan ∨ x.kind = .probe

theorem Controller.nameField_of_search (h : op.state.searches) :
    op.nameField r = { op with first := some (op.first.getD r.ref), last := some r.ref } := by
  unfold Controller.nameField
  unfold OpState.searches at h
  cases hs : op.state <;> simp [hs, OpState.kind] at h ⊢

theorem Controller.takes_of_search (h : op.state.searches) : ∃ z cs, op.takes r =
    { op with counts := z, causes := cs, first := some (op.first.getD r.ref), last := some r.ref } := by
  have hidle : ¬op.state.isIdle = true := by
    intro hi
    rw [OpState.isIdle_iff] at hi
    simp [hi, OpState.searches, OpState.kind] at h
  have hname : (op.count Counts.addTaken).nameField r =
      { op with counts := op.counts.addTaken, first := some (op.first.getD r.ref), last := some r.ref } := by
    rw [Controller.count, if_neg hidle, Controller.nameField_of_search (by exact h)]
  unfold Controller.takes
  rw [hname]
  split
  · exact ⟨op.counts.addTaken, insertCause .timecodeGap op.causes, by rw [Controller.observe, if_neg (by exact hidle)]⟩
  · exact ⟨op.counts.addTaken, op.causes, rfl⟩

/-- An event that works on the field `r` for lane `l`'s search and has issued no notice: the search has named the field, has
taken `n` fields of its limit, and has `x` as its previous index. -/
structure Ev.Searching (s : State) (l : Lane) (r : FieldRecord) (n : Nat) (x : Option Nat) (e : Ev) : Prop where
  op    : ∃ z cs js, (e.dev.lane l).op = { (s.dev.lane l).op with
    counts := z, causes := cs, jobs := js, first := some ((s.dev.lane l).op.first.getD r.ref), last := some r.ref
    limitCount := n, previousIndex := x }
  notes : e.notes = []

theorem Ev.counted_searching (h : (s.dev.lane l).op.state.searches) : ((Ev.start s.dev).counted l i r).Searching s l r
    (s.dev.lane l).op.limitCount (s.dev.lane l).op.previousIndex := by
  obtain ⟨z, cs, htakes⟩ :=
    Controller.takes_of_search (r := r) (op := s.dev.readied l (s.dev.nextFor l i r.sequence)) h
  exact ⟨⟨z, cs, _, Ev.counted_op.trans htakes⟩, rfl⟩

theorem Ev.Searching.state (h : e.Searching s l r n x) : (e.dev.lane l).op.state = (s.dev.lane l).op.state := by
  obtain ⟨z, cs, js, hop⟩ := h.op
  rw [hop]

theorem Ev.Searching.limitCount (h : e.Searching s l r n x) : (e.dev.lane l).op.limitCount = n := by
  obtain ⟨z, cs, js, hop⟩ := h.op
  rw [hop]

theorem Ev.Searching.previousIndex (h : e.Searching s l r n x) : (e.dev.lane l).op.previousIndex = x := by
  obtain ⟨z, cs, js, hop⟩ := h.op
  rw [hop]

/-! ## The search goes on, or ends and completes (R133) -/

/-- The search has tried one field more, and keeps the index `ix`, where there is one, as its previous one. -/
def Ev.tried (e : Ev) (l : Lane) (ix : Option Nat) : Ev :=
  e.modOp l fun op => { op with limitCount := op.limitCount + 1, previousIndex := ix.or op.previousIndex }

theorem Ev.tried_op : ((e.tried l ix).dev.lane l).op = { (e.dev.lane l).op with
    limitCount := (e.dev.lane l).op.limitCount + 1, previousIndex := ix.or (e.dev.lane l).op.previousIndex } := by
  rw [Ev.tried, Ev.modOp_dev, Device.lane_modLane_self]

theorem Ev.Searching.tried (h : e.Searching s l r n x) : (e.tried l ix).Searching s l r (n + 1) (ix.or x) := by
  obtain ⟨⟨z, cs, js, hop⟩, hnotes⟩ := h
  exact ⟨⟨z, cs, js, by rw [Ev.tried_op, hop]⟩, hnotes⟩

theorem Ev.setChain_endNow {c : Option ChainField} :
    (e.endNow l cls cause part).setChain l c = (e.setChain l c).endNow l cls cause part := by
  simp [Ev.endNow, Ev.complete, Ev.setChain, Ev.modOp, Ev.modLane, Ev.note]

/-- The completion record of lane `l`'s search that ends at the field `r`. -/
structure Completion.EndsSearch (c : Completion) (search : Controller) (r : FieldRecord) (class_ : EndClass)
    (ending : Option Cause) (found : OpPart) : Prop where
  op     : c.op = search.state.kind
  cls    : c.cls = class_
  cause  : c.cause = ending
  causes : ∀ x, ending = some x → x ∈ c.causes
  first  : c.first = some (search.first.getD r.ref)
  last   : c.last = some r.ref
  part   : c.part = found

section
variable (h : e.Searching s l r n x) (hr : s.dev.record i = some r)
include h hr

theorem Ev.Searching.ends (hw : (Ev.start s.dev).fieldWork l i r = e.endNow l cls cause part)
    (hc : s.link.hasCompletion l = false) : ∃ c, s.completes (s.event fun e => e.takeField l i) l c ∧
      c.EndsSearch (s.dev.lane l).op r cls cause part := by
  have hends : (Ev.start s.dev).takeField l i = (e.setChain l none).endNow l cls cause part :=
    (Ev.takeField_eq (e := Ev.start s.dev) hr).trans ((congrArg (Ev.setChain · l none) hw).trans Ev.setChain_endNow)
  have hchain : ((e.setChain l none).dev.lane l).op = (e.dev.lane l).op := by simp [Ev.setChain]
  obtain ⟨⟨z, cs, js, hop⟩, hnotes⟩ := h
  have hcompletes := State.event_endNow (g := fun e => e.takeField l i) hends hnotes hc (by rw [hchain, hop])
  rw [hchain, hop] at hcompletes
  exact ⟨_, hcompletes, rfl, rfl, rfl, fun _ hx => hx ▸ Controller.mem_causes_recordEnd (cls := cls), rfl, rfl, rfl⟩

theorem Ev.Searching.goesOn (hw : (Ev.start s.dev).fieldWork l i r = e) :
    ((s.event fun e => e.takeField l i).dev.lane l).op.state = (s.dev.lane l).op.state ∧
      (s.event fun e => e.takeField l i).link = s.link ∧
      ((s.event fun e => e.takeField l i).dev.lane l).op.limitCount = n ∧
      ((s.event fun e => e.takeField l i).dev.lane l).op.previousIndex = x := by
  subst hw
  obtain ⟨held, hlane⟩ := State.fieldTaken_lane (s := s) (l := l) hr
  rw [hlane]
  exact ⟨h.state, by rw [State.fieldTaken_eq hr, State.event_of_notes_nil h.notes], h.limitCount, h.previousIndex⟩

end

/-! ## A CUE's tests (R142) -/

/-- The field is the CUE's target. -/
def FieldRecord.cueFound (r : FieldRecord) (mode : CueMode) (target : Nat) : Prop :=
  ∃ ix, r.index = some ix ∧ (ix = target ∨ (mode = .atOrAfter ∧ target ≤ ix))

/-- The field is past the target of a CUE in EXACT mode whose previous index `x` is below it. -/
def FieldRecord.cuePassed (r : FieldRecord) (mode : CueMode) (target : Nat) (x : Option Nat) : Prop :=
  ∃ ix prev, r.index = some ix ∧ mode = .exact ∧ target < ix ∧ x = some prev ∧ prev < target

theorem Ev.cueField_of_found (h : r.cueFound mode target) :
    e.cueField l r mode target limit = (e.tried l none).endNow l .normal none .nothing := by
  obtain ⟨ix, hix, hfound⟩ := h
  simp only [Ev.cueField, hix]
  exact if_pos (by simpa using hfound)

theorem Ev.cueField_of_passed (h : r.cuePassed mode target (e.dev.lane l).op.previousIndex) :
    e.cueField l r mode target limit = (e.tried l none).endNow l .abnormal (some .targetPassed) .nothing := by
  obtain ⟨ix, prev, hix, rfl, hlt, hprev, hbelow⟩ := h
  have hfound : ¬(decide (ix = target) || (decide (CueMode.exact = .atOrAfter) && decide (target ≤ ix))) = true := by
    simp [hlt.ne']
  simp only [Ev.cueField, hix]
  rw [if_neg hfound]
  exact if_pos (by simp [hlt, hprev, hbelow])

/-- A field that neither is the target nor passes it: the limit decides. -/
theorem Ev.cueField_of_neither (hfound : ¬r.cueFound mode target)
    (hpassed : ¬r.cuePassed mode target (e.dev.lane l).op.previousIndex) : e.cueField l r mode target limit =
      if limit ≤ (e.dev.lane l).op.limitCount + 1 then
        (e.tried l r.index).endNow l .abnormal (some .notFound) .nothing
      else e.tried l r.index := by
  have hop : ((e.tried l none).dev.lane l).op = _ := Ev.tried_op
  cases hix : r.index with
  | none =>
    simp only [Ev.cueField, hix]
    exact if_congr (by simp) rfl rfl
  | some ix =>
    have hfound' : ¬(decide (ix = target) || (decide (mode = .atOrAfter) && decide (target ≤ ix))) = true :=
      fun hf => hfound ⟨ix, hix, by simpa using hf⟩
    have hpassed' : ¬(decide (mode = .exact) && decide (target < ix) &&
        ((e.tried l none).dev.lane l).op.previousIndex.any fun prev => prev < target) = true := by
      rw [hop]
      intro hp
      obtain ⟨⟨hmode, hlt⟩, prev, hprev, hbelow⟩ := by simpa [Option.any_eq_true] using hp
      exact hpassed ⟨ix, prev, hix, hmode, hlt, hprev, hbelow⟩
    simp only [Ev.cueField, hix]
    rw [if_neg hfound']
    refine (if_neg hpassed').trans ?_
    exact if_congr (by simp) (by simp [Ev.tried, Ev.modOp, Ev.modLane]) (by simp [Ev.tried, Ev.modOp, Ev.modLane])

/-! ## A SCAN's test (R156) -/

theorem ScanParams.matched_of_met (hpar : ∀ q, p.parity = some q → q = r.parity)
    (hv : r.measure p.measure = some v) (hmet : p.comparison.holds p.reference v = true) : p.matched r = some v := by
  have hany : ¬(p.parity.any fun q => q ≠ r.parity) = true := by
    intro hp
    obtain ⟨q, hq, hne⟩ := (Option.any_eq_true _ _).1 hp
    exact of_decide_eq_true hne (hpar q hq)
  rw [ScanParams.matched, if_neg hany, hv, Option.filter_some, if_pos hmet]

theorem ScanParams.matched_eq_none (h : (∃ q, p.parity = some q ∧ q ≠ r.parity) ∨ r.measure p.measure = none ∨
    ∃ v, r.measure p.measure = some v ∧ p.comparison.holds p.reference v = false) : p.matched r = none := by
  unfold ScanParams.matched
  split
  · rfl
  · rename_i hany
    rcases h with ⟨q, hq, hne⟩ | hnone | ⟨v, hv, hmet⟩
    · exact absurd ((Option.any_eq_true _ _).2 ⟨q, hq, decide_eq_true hne⟩) hany
    · rw [hnone]; rfl
    · rw [hv, Option.filter_some, if_neg (Bool.eq_false_iff.1 hmet)]

theorem Ev.scanField_of_matched (h : p.matched r = some v) :
    e.scanField l r p = (e.tried l none).endNow l .normal none (.scanFound r.ref v) := by
  simp only [Ev.scanField, h]
  rfl

theorem Ev.scanField_of_not_matched (h : p.matched r = none) : e.scanField l r p =
    if p.limit ≤ (e.dev.lane l).op.limitCount + 1 then (e.tried l none).endNow l .abnormal (some .notFound) .nothing
    else e.tried l none := by
  have hop : ((e.tried l none).dev.lane l).op = _ := Ev.tried_op
  simp only [Ev.scanField, h]
  exact if_congr (by simp) rfl rfl

theorem Comparison.holds_iff (tol ref v : Nat) :
    ((Comparison.equal tol).holds ref v = true ↔ ((v : Int) - ref).natAbs ≤ tol) ∧
      (Comparison.atOrBelow.holds ref v = true ↔ v ≤ ref) ∧ (Comparison.atOrAbove.holds ref v = true ↔ ref ≤ v) := by
  simp [Comparison.holds, absDiff_eq_natAbs]

/-! ## The test that each search makes (Table 63) -/

theorem Ev.fieldWork_of_cueing (hs : (s.dev.lane l).op.state = .cueing mode target limit) :
    (Ev.start s.dev).fieldWork l i r = ((Ev.start s.dev).counted l i r).cueField l r mode target limit := by
  have h := (Ev.counted_searching (i := i) (r := r) (s := s) (l := l) (.inl (congrArg OpState.kind hs))).state
  rw [Ev.fieldWork, Ev.operationField, h, hs]

theorem Ev.fieldWork_of_scanning (hs : (s.dev.lane l).op.state = .scanning p) :
    (Ev.start s.dev).fieldWork l i r = ((Ev.start s.dev).counted l i r).scanField l r p := by
  have h := (Ev.counted_searching (i := i) (r := r) (s := s) (l := l) (.inr (.inl (congrArg OpState.kind hs)))).state
  rw [Ev.fieldWork, Ev.operationField, h, hs]

theorem Ev.fieldWork_of_probing (hs : (s.dev.lane l).op.state = .probing) : (Ev.start s.dev).fieldWork l i r =
    ((Ev.start s.dev).counted l i r).endNow l .normal none (.probed r.header) := by
  have h := (Ev.counted_searching (i := i) (r := r) (s := s) (l := l) (.inr (.inr (congrArg OpState.kind hs)))).state
  rw [Ev.fieldWork, Ev.operationField, h, hs]

end

/-- Settles O24: each search by its own test of the counted field. -/
theorem searchesEndAtTheirField : Obligations.SearchesEndAtTheirField := by
  intro s l i r hc hr hcompletion
  have hexec := exec_fieldTaken hc
  refine ⟨fun mode target limit hs => ?cue, fun p v hs hpar hv hmet => ?scanFound, fun p hs hnot => ?scanOther,
    Comparison.holds_iff, fun hs hfirst => ?probe⟩
  case cue =>
    have h := Ev.counted_searching (i := i) (r := r) (.inl (congrArg OpState.kind hs))
    have hprev := h.previousIndex
    have hlimit := h.limitCount
    have hw := Ev.fieldWork_of_cueing (i := i) (r := r) hs
    refine ⟨_, r.cueFound mode target, r.cuePassed mode target (s.dev.lane l).op.previousIndex, hexec, .rfl, .rfl,
      fun hfound => ?found, fun hpassed => ?passed, fun hnf hnp hlast => ?last, fun hnf hnp hmore => ?more⟩
    case found =>
      obtain ⟨c, hcompletes, hend⟩ := h.tried.ends hr (hw.trans (Ev.cueField_of_found hfound)) hcompletion
      exact ⟨c, hcompletes, hend.op.trans (congrArg OpState.kind hs), hend.cls, hend.cause, hend.last, hend.part⟩
    case passed =>
      obtain ⟨c, hcompletes, hend⟩ :=
        h.tried.ends hr (hw.trans (Ev.cueField_of_passed (hprev.symm ▸ hpassed))) hcompletion
      exact ⟨c, hcompletes, hend.op.trans (congrArg OpState.kind hs), hend.cls, hend.cause, hend.causes _ rfl, hend.last,
        hend.part⟩
    case last =>
      have hneither := hw.trans (Ev.cueField_of_neither hnf (hprev.symm ▸ hnp))
      rw [hlimit, if_pos hlast] at hneither
      obtain ⟨c, hcompletes, hend⟩ := h.tried.ends hr hneither hcompletion
      exact ⟨c, hcompletes, hend.op.trans (congrArg OpState.kind hs), hend.cls, hend.cause, hend.causes _ rfl, hend.part⟩
    case more =>
      have hneither := hw.trans (Ev.cueField_of_neither hnf (hprev.symm ▸ hnp))
      rw [hlimit, if_neg hmore.not_ge] at hneither
      obtain ⟨hstate, hlink, hcount, hindex⟩ := h.tried.goesOn hr hneither
      refine ⟨hstate.trans hs, hlink, hcount, hindex.trans ?_⟩
      cases r.index <;> rfl
  case scanFound =>
    have h := Ev.counted_searching (i := i) (r := r) (.inr (.inl (congrArg OpState.kind hs)))
    have hw := (Ev.fieldWork_of_scanning (i := i) (r := r) hs).trans
      (Ev.scanField_of_matched (ScanParams.matched_of_met hpar hv hmet))
    obtain ⟨c, hcompletes, hend⟩ := h.tried.ends hr hw hcompletion
    exact ⟨_, c, hexec, hcompletes, hend.op.trans (congrArg OpState.kind hs), hend.cls, hend.cause, hend.last, hend.part⟩
  case scanOther =>
    have h := Ev.counted_searching (i := i) (r := r) (.inr (.inl (congrArg OpState.kind hs)))
    have hw := (Ev.fieldWork_of_scanning (i := i) (r := r) hs).trans
      (Ev.scanField_of_not_matched (ScanParams.matched_eq_none hnot))
    rw [h.limitCount] at hw
    refine ⟨_, hexec, fun hlast => ?_, fun hmore => ?_⟩
    · rw [if_pos hlast] at hw
      obtain ⟨c, hcompletes, hend⟩ := h.tried.ends hr hw hcompletion
      exact ⟨c, hcompletes, hend.op.trans (congrArg OpState.kind hs), hend.cls, hend.cause, hend.causes _ rfl, hend.part⟩
    · rw [if_neg hmore.not_ge] at hw
      obtain ⟨hstate, hlink, hcount, -⟩ := h.tried.goesOn hr hw
      exact ⟨hstate.trans hs, hlink, hcount⟩
  case probe =>
    have h := Ev.counted_searching (i := i) (r := r) (.inr (.inr (congrArg OpState.kind hs)))
    obtain ⟨c, hcompletes, hend⟩ := h.ends hr (Ev.fieldWork_of_probing hs) hcompletion
    exact ⟨_, c, hexec, hcompletes, hend.op.trans (congrArg OpState.kind hs), hend.cls, hend.cause,
      hend.first.trans (by rw [hfirst]; rfl), hend.last, hend.part⟩

end Sys2Proof.Machine

/-! PROOFS (O49). The checks of an operation request in their order, and what a CUE, SCAN, PROBE or LINE TEST that passes them
starts (R130, R142, R156 to R158). -/
namespace Sys2Proof.Machine
section
variable {s : State} {d : Device} {r : Request} {l : Lane} {k : Nat} {g : Lane → Answer}

/-! ## The checks (R130) -/

theorem operationRequest_of_no_lane (h : 4 ≤ field r.body 0 1) : operationRequest d r g = refuse d .range := by
  have hnone : readLane (field r.body 0 1) = none := dif_neg (by omega)
  rw [operationRequest, hnone]

/-- The kinds of R130 but ACQUIRE begin with its first two checks. -/
theorem exec_operation (hk : k = 0x12 ∨ k = 0x13 ∨ k = 0x15 ∨ k = 0x16 ∨ k = 0x17) :
    ∃ h : Device → Request → Lane → Answer,
      exec (commandOf k) s = .next (s.request k fun d r => operationRequest d r (h d r)) := by
  rcases hk with rfl | rfl | rfl | rfl | rfl <;> exact ⟨_, rfl⟩

/-- CUE, TRANSFER, SCAN and PROBE then ask for a LOCKED lane. -/
theorem exec_lockedOperation (hk : k = 0x12 ∨ k = 0x13 ∨ k = 0x15 ∨ k = 0x16) :
    ∃ h : Device → Request → Lane → Answer,
      exec (commandOf k) s = .next (s.request k fun d r => lockedLaneRequest d r (h d r)) := by
  rcases hk with rfl | rfl | rfl | rfl <;> exact ⟨_, rfl⟩

section
variable (hl : field r.body 0 1 = l.val)
include hl

theorem operationRequest_of_busy (h : (d.lane l).op.state ≠ .idle ∨ (d.lane l).op.held ≠ none) :
    operationRequest d r g = refuse d .busy := by
  rw [operationRequest_of_lane (hl.trans (toNat_ofNat_val l (by omega)).symm), if_pos h]

variable (hs : (d.lane l).op.state = .idle) (hheld : (d.lane l).op.held = none)
include hs hheld

theorem operationRequest_of_free : operationRequest d r g = g l := by
  rw [operationRequest_of_lane (hl.trans (toNat_ofNat_val l (by omega)).symm), if_neg (by simp [hs, hheld])]

theorem lockedLaneRequest_of_not_locked (hlock : (d.lane l).ingest.state ≠ .locked) : lockedLaneRequest d r g =
    refuse d (if (d.lane l).ingest.state = .off then .laneOff else .notLocked) := by
  rw [lockedLaneRequest, operationRequest_of_free hl hs hheld]
  cases hstate : (d.lane l).ingest.state with
  | locked => exact absurd hstate hlock
  | _ => rfl

theorem lineTestRequest_of_enabled (hon : (d.lane l).ingest.state ≠ .off) : lineTestRequest d r = refuse d .busy := by
  rw [lineTestRequest, operationRequest_of_free hl hs hheld, if_pos hon]

/-! ## The requests that start -/

theorem lineTestRequest_of_off (hoff : (d.lane l).ingest.state = .off) : lineTestRequest d r =
    started ((Ev.start d).modOp l fun op => op.accept (.lineTesting LineWatch.start) r.tag) [] := by
  rw [lineTestRequest, operationRequest_of_free hl hs hheld, if_neg (not_not_intro hoff)]

variable (hlock : (d.lane l).ingest.state = .locked)
include hlock

theorem cueRequest_of_locked {m : CueMode} {target limit : Nat} (hp : readCue r.body = some (m, target, limit)) :
    cueRequest d r = started ((Ev.start d).modOp l fun op => op.accept (.cueing m target limit) r.tag) [] := by
  rw [cueRequest, lockedLaneRequest_of_locked hl hs hheld hlock, hp]

theorem scanRequest_of_locked {p : ScanParams} (hp : readScan r.body = some p) :
    scanRequest d r = started ((Ev.start d).modOp l fun op => op.accept (.scanning p) r.tag) [] := by
  rw [scanRequest, lockedLaneRequest_of_locked hl hs hheld hlock, hp]

theorem probeRequest_of_locked :
    probeRequest d r = started ((Ev.start d).modOp l fun op => op.accept .probing r.tag) [] := by
  rw [probeRequest, lockedLaneRequest_of_locked hl hs hheld hlock]

end
end

/-- Settles O49: the checks one after another, and then the four requests that start. -/
theorem operationsStart : Obligations.OperationsStart := by
  intro s r k ht
  refine ⟨fun hk hrange => ?range, fun l hl => ⟨fun hk hbusy => ?busy, fun hs hheld =>
    ⟨fun hk hlock => ?notLocked, fun hk hon => ?enabled, fun st c hstart => ?starts⟩⟩⟩
  case range =>
    obtain ⟨h, hexec⟩ := exec_operation (s := s) hk
    rw [hexec, State.request_refused ht (operationRequest_of_no_lane hrange)]
  case busy =>
    obtain ⟨h, hexec⟩ := exec_operation (s := s) hk
    rw [hexec, State.request_refused ht (operationRequest_of_busy hl hbusy)]
  case notLocked =>
    obtain ⟨h, hexec⟩ := exec_lockedOperation (s := s) hk
    rw [hexec, State.request_refused ht (lockedLaneRequest_of_not_locked hl hs hheld hlock)]
  case enabled =>
    subst hk
    exact congrArg Host.Outcome.next (State.request_refused ht (lineTestRequest_of_enabled hl hs hheld hon))
  case starts =>
    rcases hstart with ⟨hlock, ⟨rfl, rfl, m, target, limit, hp, rfl⟩ | ⟨rfl, rfl, p, hp, rfl⟩ | ⟨rfl, rfl, rfl⟩⟩ |
      ⟨hoff, rfl, rfl, rfl⟩
    · exact congrArg Host.Outcome.next (State.request_accepts ht (cueRequest_of_locked hl hs hheld hlock hp))
    · exact congrArg Host.Outcome.next (State.request_accepts ht (scanRequest_of_locked hl hs hheld hlock hp))
    · exact congrArg Host.Outcome.next (State.request_accepts ht (probeRequest_of_locked hl hs hheld hlock))
    · exact congrArg Host.Outcome.next (State.request_accepts ht (lineTestRequest_of_off hl hs hheld hoff))

end Sys2Proof.Machine

/-! PROOFS (O51). AMEND: which transfer it finds, the controller with the new end, and what an end behind the work already
done makes of it (R154). -/
namespace Sys2Proof.Machine
section
variable {d : Device} {e : Ev} {r : Request} {l : Lane} {op : Controller} {sub : SubState} {p : TransferParams}
  {en : TransferEnd} {tag : Byte} {cls : EndClass} {cause : Option Cause}

/-! ## The new end -/

/-- The controller of a transfer with its end replaced and AMENDED observed. -/
def Controller.amended (op : Controller) (sub : SubState) (p : TransferParams) (en : TransferEnd) : Controller :=
  { op with state := .transfer sub { p with ending := en }, causes := insertCause .amended op.causes }

theorem Controller.behind_iff : op.behind en = true ↔ (∃ n, en = .count n ∧ n ≤ op.jobsCreated) ∨
    ∃ a ix, en = .atIndex a ∧ op.lastJobIndex = some ix ∧ a ≤ ix := by
  cases en with
  | never => simp [Controller.behind]
  | count n => simp [Controller.behind]
  | atIndex a => simp [Controller.behind, Option.any_eq_true]

theorem Controller.not_behind (hn : ∀ n, en = .count n → op.jobsCreated < n)
    (ha : ∀ a, en = .atIndex a → ∀ ix, op.lastJobIndex = some ix → ix < a) : op.behind en = false := by
  refine Bool.eq_false_iff.2 fun h => ?_
  rcases Controller.behind_iff.1 h with ⟨n, hen, hle⟩ | ⟨a, ix, hen, hix, hle⟩
  · exact absurd (hn n hen) hle.not_gt
  · exact absurd (ha a hen ix hix) hle.not_gt

theorem endBeforeStart_eq_false {st : TransferStart} (h : ∀ a e, st = .atIndex a → en = .atIndex e → a ≤ e) :
    endBeforeStart st en = false := by
  unfold endBeforeStart
  split
  · exact decide_eq_false (h _ _ rfl rfl).not_gt
  · rfl

/-- With a job pending a transfer that ends drains (R152). -/
theorem Ev.endTransfer_of_jobs (hs : (e.dev.lane l).op.state = .transfer sub p) (hj : (e.dev.lane l).op.jobs ≠ []) :
    e.endTransfer l cls cause = e.modOp l fun op => op.drain cls cause p := by
  have hop : ((e.modOp l fun op => op.drain cls cause p).dev.lane l).op = (e.dev.lane l).op.drain cls cause p := by simp
  have houtstanding : (e.modOp l fun op => op.drain cls cause p).dev.outstanding l := .inl (by rw [hop]; exact hj)
  rw [Ev.endTransfer_eq hs, Ev.settle_of_draining (p := p) (by rw [hop]; rfl),
    if_neg fun h => Device.drained_iff.1 h houtstanding]

theorem Ev.amend_of_ahead (h : sub = .running → (e.dev.lane l).op.behind en = false) :
    e.amend l sub p en = e.modOp l fun op => op.amended sub p en := by
  have hop : ((e.modOp l fun op => op.amended sub p en).dev.lane l).op = (e.dev.lane l).op.amended sub p en := by simp
  refine if_neg fun hb => ?_
  obtain ⟨hsub, hbehind⟩ := Bool.and_eq_true_iff.1 hb
  have hbehind' : (e.dev.lane l).op.behind en = true := (congrArg (Controller.behind · en) hop).symm.trans hbehind
  exact absurd (h (of_decide_eq_true hsub)) (ne_false_of_eq_true hbehind')

theorem Ev.amend_of_behind (h : (e.dev.lane l).op.behind en = true) (hj : (e.dev.lane l).op.jobs ≠ []) :
    e.amend l .running p en = e.modOp l fun op =>
      (op.amended .running p en).drain .normal (some .endReached) { p with ending := en } := by
  have hop : ((e.modOp l fun op => op.amended .running p en).dev.lane l).op =
      (e.dev.lane l).op.amended .running p en := by simp
  have hends : e.amend l .running p en =
      (e.modOp l fun op => op.amended .running p en).endTransfer l .normal (some .endReached) :=
    if_pos (Bool.and_eq_true_iff.2 ⟨rfl, (congrArg (Controller.behind · en) hop).trans h⟩)
  rw [hends, Ev.endTransfer_of_jobs (sub := .running) (by rw [hop]; rfl) (by rw [hop]; exact hj)]
  simp [Ev.modOp, Ev.modLane]

/-! ## The request -/

theorem field_one_of_getElem? {body : List Byte} {i : Nat} {b : Byte} (h : body[i]? = some b) :
    field body i 1 = b.toNat := by
  obtain ⟨hi, rfl⟩ := List.getElem?_eq_some_iff.1 h
  rw [field, List.drop_eq_getElem_cons hi]
  exact Nat.zero_add _

section
variable (hl : field r.body 0 1 = l.val) (hen : readEnd (field r.body 2 1) (field r.body 3 4) = some en)
  (htag : r.body[1]? = some tag)
include hl hen htag

theorem amendRequest_of_unmatched (h : (d.lane l).op.state.kind ≠ .transfer ∨ (d.lane l).op.tag ≠ tag) :
    amendRequest d r = refuse d (if (d.lane l).op.lastTag = some ⟨tag, true⟩ then .tooLate else .notRunning) := by
  unfold amendRequest
  simp only [hl, readLane_val, hen, field_one_of_getElem? htag, BitVec.ofNat_toNat, BitVec.setWidth_eq]
  split
  · rename_i sub p hs
    exact if_pos (h.resolve_left (not_not_intro (congrArg OpState.kind hs)))
  · rfl

variable (ht : (d.lane l).op.tag = tag)
include ht

/-- What becomes of an AMEND that finds its transfer. -/
theorem amendRequest_of_matched (hs : (d.lane l).op.state = .transfer sub p) : amendRequest d r =
    if sub = .draining then refuse d .tooLate
    else if sub = .armed && endBeforeStart p.start en then refuse d .range
    else done ((Ev.start d).amend l sub p en) [] := by
  unfold amendRequest
  simp only [hl, readLane_val, hen, field_one_of_getElem? htag, BitVec.ofNat_toNat, BitVec.setWidth_eq, hs]
  exact if_neg (not_not_intro ht)

theorem amendRequest_of_draining (hs : (d.lane l).op.state = .transfer .draining p) :
    amendRequest d r = refuse d .tooLate := (amendRequest_of_matched hl hen htag ht hs).trans (if_pos rfl)

theorem amendRequest_of_armed (hs : (d.lane l).op.state = .transfer .armed p)
    (hstart : ∀ a e, p.start = .atIndex a → en = .atIndex e → a ≤ e) :
    amendRequest d r = done ((Ev.start d).amend l .armed p en) [] := by
  rw [amendRequest_of_matched hl hen htag ht hs, if_neg nofun, endBeforeStart_eq_false hstart]
  rfl

theorem amendRequest_of_running (hs : (d.lane l).op.state = .transfer .running p) :
    amendRequest d r = done ((Ev.start d).amend l .running p en) [] :=
  amendRequest_of_matched hl hen htag ht hs

end
end

/-- Settles O51: the request by the transfer that it finds, and then the new end against the work already done. -/
theorem amendReplacesEnd : Obligations.AmendReplacesEnd := by
  intro s r l en op tag ht hl hen htag hop
  subst hop
  refine ⟨fun hother => ?unmatched, fun p hs hmatch => ?draining, fun sub p hs hmatch hahead => ?ahead,
    fun p hs hmatch hjobs hbehind => ?behind⟩
  case unmatched =>
    exact congrArg Host.Outcome.next (State.request_refused ht (amendRequest_of_unmatched hl hen htag hother))
  case draining =>
    exact congrArg Host.Outcome.next (State.request_refused ht (amendRequest_of_draining hl hen htag hmatch hs))
  case ahead =>
    rcases hahead with ⟨rfl, hstart⟩ | ⟨rfl, hcount, hindex⟩
    · exact congrArg Host.Outcome.next (State.request_done ht ((amendRequest_of_armed hl hen htag hmatch hs hstart).trans
        (congrArg (done · []) (Ev.amend_of_ahead nofun))))
    · exact congrArg Host.Outcome.next (State.request_done ht ((amendRequest_of_running hl hen htag hmatch hs).trans
        (congrArg (done · []) (Ev.amend_of_ahead fun _ => Controller.not_behind hcount hindex))))
  case behind =>
    refine ⟨_, congrArg Host.Outcome.next (State.request_done ht ((amendRequest_of_running hl hen htag hmatch hs).trans
      (congrArg (done · []) (Ev.amend_of_behind (Controller.behind_iff.2 hbehind) hjobs)))), ?_⟩
    have hamended : .amended ∈
        (((s.dev.lane l).op.amended .running p en).recordEnd .normal (some .endReached)).causes :=
      (Controller.Gathers.recordEnd _ _ _).causes _ (mem_insertCause_self _ _)
    rw [Device.lane_modLane_self]
    exact ⟨rfl, rfl, rfl, hamended, rfl, rfl, fun k hk => Device.lane_modLane_of_ne _ _ hk, rfl, rfl⟩

end Sys2Proof.Machine
